-- ==== Sys2Proof/Word.lean ====
section
/-! DEFINITION. The widths of the things the manual treats as bits: line fields, bitmaps, strap nibbles. -/

namespace Sys2Proof

/-- A 4-bit value: an address strap, a parameter strap, a round index (R20, R22, R186). -/
abbrev Nibble := BitVec 4

/-- An 8-bit value: a slot byte, a directive argument, a PLANT field (R20, R29). -/
abbrev Byte := BitVec 8

/-- A bitmap field: the bit of station `a` has weight `2 ^ a` (R16). -/
abbrev Bitmap := BitVec 16

/-- The 384 data bits of a round; data bit 0, the first on the line, is the most significant (R8, R20). -/
abbrev RoundBits := BitVec 384

/-- The 112 bits of SHARE or SLOW; field bit 0, the first on the line, is the most significant (R19). -/
abbrev SlotBits := BitVec 112

end Sys2Proof
end

