-- ==== Sys2Proof/Config.lean ====
section
/-! DEFINITION. The constants of time of the part, in microseconds. One microsecond is one capture tick.
The manual leaves no value of the part open that software or the line could read, so no constant here is a
free value. -/

namespace Sys2Proof.Config

/-- `n` bit times at 1200 bit/s in microseconds, rounded up to the microsecond (R3: one bit time is 0.8333 ms).
DESIGN CHOICE, notes/assumptions/4: a bit time is 2500/3 microseconds and the model counts whole ones. -/
def bitsUs (n : Nat) : Nat := (n * 2500 + 2) / 3

/-- The period Pa of a station's round timer: 1000 ms + 8 ms × address (R11). -/
def paUs (address : Nat) : Nat := (1000 + 8 * address) * 1000

/-- A run of 12 bit times is a sync (R5). -/
def syncBits : Nat := 12

/-- A station's own sync mark is 16 bit times (R4). -/
def markBits : Nat := 16

/-- A dominant run of 5 bit times in GUARD or WINDOW is a framing error (R9). -/
def framingBits : Nat := 5

/-- The two guard bits after the round start (R7). -/
def guardBits : Nat := 2

/-- The round end is 482 bit times after the round start (R8). -/
def roundBits : Nat := 482

/-- The settle wait of 250 ms (R186). -/
def settleUs : Nat := 250000

/-- A key chord holds its reset for 16 ms (R184). -/
def chordHoldUs : Nat := 16000

/-- Supply samples are 16 ms apart (R184). -/
def supplySampleUs : Nat := 16000

/-- Key samples are 16 ms apart (R78). -/
def keySampleUs : Nat := 16000

/-- Trip input samples are 1 ms apart (R167). -/
def tripSampleUs : Nat := 1000

/-- The second tick (R62). -/
def secondUs : Nat := 1000000

/-- The isolation timer's 10 s (R56). -/
def isolationUs : Nat := 10000000

/-- A Mode press of 3.0 s is a long press (R80). -/
def longPressUs : Nat := 3000000

/-- The chord's 2.0 s (R82). -/
def chordUs : Nat := 2000000

/-- The stall timer's 500 ms (R123). -/
def stallUs : Nat := 500000

/-- The reversal pause of 200 ms (R122). -/
def pauseUs : Nat := 200000

/-- The retry timer's 2 s (R125). -/
def retryUs : Nat := 2000000

/-- The homing timer's 30 s (R127). -/
def homingUs : Nat := 30000000

/-- The period of a PWM channel and of the bridge, 1 ms (R164, R168). -/
def periodUs : Nat := 1000

/-- The dead time of the bridge, 100 µs (R168). -/
def deadUs : Nat := 100

/-- The conducting part of a bridge period, 800 µs (R168). -/
def bridgeOnUs : Nat := 800

/-- The interval of a switched output, 2 s (R169). -/
def intervalUs : Nat := 2000000

/-- A half period of the blink clock, 500 ms (R170). -/
def blinkUs : Nat := 500000

/-- The period and high-time counts saturate at 65535 capture ticks (R60). -/
def captureMax : Nat := 65535

/-- A supply sample below 2.7 V is low (R184), in millivolts. -/
def supplyLowMv : Nat := 2700

/-- A supply sample of 3.0 V or more releases a supply reset (R184), in millivolts. -/
def supplyGoodMv : Nat := 3000

end Sys2Proof.Config
end

