-- ==== Sys2Proof/Syntax.lean ====
section
/-! DEFINITION. The commands of the part: one constructor per row of spec/opcode_table.json. A row is an event
that reaches one station; its operands are what the outside world brings with it (a level read, a voltage, an edge's
distance in time, the bits read from the line). -/

namespace Sys2Proof

/-- The two capture channels (R59). -/
inductive Channel where
  | a
  | b
  deriving DecidableEq, Repr

/-- The three keys of a zone station (R78). -/
inductive Key where
  | up
  | down
  | mode
  deriving DecidableEq, Repr

/-- The levels one key sample reads, `true` for pressed (R78). `downFirst` says which of Up and Down is taken first
when one sample brings a recognition of both (R79 takes them in the order in which they are recognised and does not
say which that is). -/
structure KeySample where
  up : Bool
  down : Bool
  mode : Bool
  downFirst : Bool
  deriving DecidableEq, Repr

/-- The level a sample reads at one key. -/
def KeySample.level (x : KeySample) : Key → Bool
  | .up => x.up
  | .down => x.down
  | .mode => x.mode

/-- The levels a receiver read at the 482 sample points of a round (R3, R7, R8), `1` for dominant: the two guard bits,
the 384 data bits (data bit 0 the most significant) and the 96 spacers (the first the most significant). -/
structure Window where
  guards : BitVec 2
  data : RoundBits
  spacers : BitVec 96
  deriving DecidableEq, Repr

/-- The levels at the guard bits and the spacers of a window, which every station leaves recessive (R7, R8). -/
structure FrameLevels where
  guards : BitVec 2
  spacers : BitVec 96
  deriving DecidableEq, Repr

/-- The PWM channels of the plant roles (R164). -/
inductive PwmChannel where
  | blower
  | bypass
  | compressor
  deriving DecidableEq, Repr

/-- The loads on switched outputs (R169). -/
inductive Load where
  | valve
  | fan
  | heater
  deriving DecidableEq, Repr

/-- The commands, one constructor per row of spec/opcode_table.json, in the table's order. -/
inductive Instr where
  | powerOn
  | supplyMonitorReset
  | supplyMonitorRelease
  | resetPinLow
  | resetPinHigh
  | chordResetRelease
  /-- The levels at the eight strap pins when they are latched (R186). -/
  | settleTimer (address parameter : Nibble)
  | roundTimerPa
  | syncMarkRelease
  /-- The run's length in whole bit times, below 12 (R5). -/
  | noiseRunEnd (bits : Nat)
  /-- The levels of the window that the sync cuts short: its data bits, and its guard bits and spacers. The station has
  read those whose sample points have come (R3, R10). -/
  | syncRecognised (data : RoundBits) (frame : FrameLevels)
  | roundStart
  /-- The levels read at the sample points of the round that ends (R8). -/
  | roundEnd (w : Window)
  | missingRound
  | silenceEvent
  | isolationTimerExpiry
  /-- The directives at their execution: source, destination, argument (R172, R177). -/
  | setCool (source dest : Nibble) (arg : Byte)
  | setHeat (source dest : Nibble) (arg : Byte)
  | setHumid (source dest : Nibble) (arg : Byte)
  | zoneSet (source dest : Nibble) (arg : Byte)
  | read (source dest : Nibble) (arg : Byte)
  | testDamper (source dest : Nibble) (arg : Byte)
  | testBlower (source dest : Nibble) (arg : Byte)
  | testSpeed (source dest : Nibble) (arg : Byte)
  | forceDefrost (source dest : Nibble) (arg : Byte)
  | corruptCheck (source dest : Nibble) (arg : Byte)
  | muteCount (source dest : Nibble) (arg : Byte)
  | clearTrip (source dest : Nibble) (arg : Byte)
  | normal (source dest : Nibble) (arg : Byte)
  | secondTick
  | ringEmptied (ch : Channel)
  /-- An edge that comes `ticks` capture ticks after the command before it (R60). -/
  | captureRisingEdge (ch : Channel) (ticks : Nat)
  | captureFallingEdge (ch : Channel) (ticks : Nat)
  | periodAbandoned (ch : Channel)
  | keyPress (k : Key) (x : KeySample)
  | keyRelease (k : Key) (x : KeySample)
  | modeShortPress (x : KeySample)
  | modeLongPress
  | chordReset
  | damperPulse
  | stall
  | pauseEnd
  | retryEnd
  | homingTimeout
  | coldBlowHoldEnd
  | coilFrostChange
  | supplyHotChange
  | auxHeatOn
  | normalStop
  | frostStop
  | minOffEnd
  | defrostEntry
  | defrostEnd
  | dripEnd
  | tripAgeExpiry
  | tripFilterChange
  | pwmPeriodEnd (c : PwmChannel)
  | hbridgePeriodStart
  | switchedIntervalEnd (l : Load)
  | blinkClock
  | dominantRunLeadingEdge
  /-- The supply voltage the sample reads, in millivolts (R184). -/
  | supplySample (mv : Nat)
  /-- The level at the trip input pin, `true` for high (R167). -/
  | tripInputSample (high : Bool)
  | keySample (x : KeySample)
  | modePressRecognition (x : KeySample)
  deriving DecidableEq, Repr

end Sys2Proof
end

