-- ==== Sys2Proof/WellFormed.lean ====
section
/-! DEFINITION. Which commands are well formed: operands that the event a row names can bring with it. What exec does
with an ill-formed one is said in notes/assumptions/23. -/

namespace Sys2Proof

/-- A directive row: a source that sends (a priority of 1 or more, R172) and a destination that some station has
(R172: destination 0 is addressed to no station). -/
def directiveFormed (source dest : Nibble) : Bool := decide (source ≠ 15 ∧ dest ≠ 0)

/-- The operands fit the event the row names. -/
def Instr.wellFormed (i : Instr) : Bool :=
  match i with
  | .powerOn => true
  | .supplyMonitorReset => true
  | .supplyMonitorRelease => true
  | .resetPinLow => true
  | .resetPinHigh => true
  | .chordResetRelease => true
  | .settleTimer _ _ => true
  | .roundTimerPa => true
  | .syncMarkRelease => true
  -- a run that ends shorter than 12 bit times (R5)
  | .noiseRunEnd bits => decide (bits < Config.syncBits)
  | .syncRecognised _ _ => true
  | .roundStart => true
  | .roundEnd _ => true
  | .missingRound => true
  | .silenceEvent => true
  | .isolationTimerExpiry => true
  | .setCool source dest _ => directiveFormed source dest
  | .setHeat source dest _ => directiveFormed source dest
  | .setHumid source dest _ => directiveFormed source dest
  | .zoneSet source dest _ => directiveFormed source dest
  | .read source dest _ => directiveFormed source dest
  | .testDamper source dest _ => directiveFormed source dest
  | .testBlower source dest _ => directiveFormed source dest
  | .testSpeed source dest _ => directiveFormed source dest
  | .forceDefrost source dest _ => directiveFormed source dest
  | .corruptCheck source dest _ => directiveFormed source dest
  | .muteCount source dest _ => directiveFormed source dest
  | .clearTrip source dest _ => directiveFormed source dest
  | .normal source dest _ => directiveFormed source dest
  | .secondTick => true
  | .ringEmptied _ => true
  | .captureRisingEdge _ _ => true
  | .captureFallingEdge _ _ => true
  | .periodAbandoned _ => true
  -- KEY_PRESS is a press of Up or Down (R79)
  | .keyPress k x => decide (k ≠ .mode) && x.level k
  | .keyRelease k x => !x.level k
  | .modeShortPress x => !x.mode
  | .modeLongPress => true
  | .chordReset => true
  | .damperPulse => true
  | .stall => true
  | .pauseEnd => true
  | .retryEnd => true
  | .homingTimeout => true
  | .coldBlowHoldEnd => true
  | .coilFrostChange => true
  | .supplyHotChange => true
  | .auxHeatOn => true
  | .normalStop => true
  | .frostStop => true
  | .minOffEnd => true
  | .defrostEntry => true
  | .defrostEnd => true
  | .dripEnd => true
  | .tripAgeExpiry => true
  | .tripFilterChange => true
  | .pwmPeriodEnd _ => true
  | .hbridgePeriodStart => true
  | .switchedIntervalEnd _ => true
  | .blinkClock => true
  | .dominantRunLeadingEdge => true
  | .supplySample _ => true
  | .tripInputSample _ => true
  | .keySample _ => true
  | .modePressRecognition x => x.mode

end Sys2Proof
end

