-- ==== Sys2Proof/Decode.lean ====
section
/-! DEFINITION. Words of commands. spec/opcode_table.json gives its rows no bits: the part takes events, not words. -/

namespace Sys2Proof

/-- The command a word spells. No row of the table has bits, so no word spells one. -/
def decodeTableWord (_nbits _w : Nat) : Option Instr := none

end Sys2Proof
end

