-- ==== Sys2Proof/Machine/State.lean ====
section
/-! DEFINITION. The state of one CZ-418 station: every block of the manual's block table, the timers, and the queue of
commands that wait. Each structure is one block; its docstring names the rules that give its fields. -/

namespace Sys2Proof.Machine

/-- Reasons a command stops the part. There is none: every command of the table has an effect the manual gives, or
cannot arise in the state at hand and then changes nothing (notes/assumptions/1). Nobody raises a fault, so the type
is empty; that is safe. -/
inductive Fault where
  deriving DecidableEq, Repr

/-- Reasons a command is refused. -/
inductive Refusal where
  /-- An arm of `exec` whose command has no meaning yet. No arm raises it now; it would be safe. -/
  | notModelled (mnemonic : String)
  deriving DecidableEq, Repr

/-! ### Timers -/

/-- A timer: whether it runs, and the microseconds it shows. -/
structure Timer where
  running : Bool
  us : Nat
  deriving DecidableEq, Repr

/-- A stopped timer at 0. Where a rule says only that a timer is stopped, or that something happens when it reaches its
end, it is the model's choice that it then shows 0 (DESIGN CHOICE, notes/assumptions/28). -/
def Timer.stopped : Timer := ⟨false, 0⟩

/-- A timer started from 0. -/
def Timer.started : Timer := ⟨true, 0⟩

/-- Every timer of the station that counts milliseconds or microseconds. What counts second ticks, samples or rounds
is a number of its own block. -/
structure Timers where
  /-- The round timer (R11). -/
  round : Timer
  /-- The dominant run in progress, from its leading edge (R5). -/
  run : Timer
  /-- The station's own sync mark; it runs while the station drives the mark (R4). -/
  mark : Timer
  /-- The isolation timer (R56). -/
  isolation : Timer
  /-- The settle timer (R186). -/
  settle : Timer
  /-- The 16 ms of a key-chord assertion (R184). -/
  chordHold : Timer
  /-- The supply monitor's sampling clock, which runs in every state (R184). -/
  supplyClock : Timer
  /-- The second tick's clock (R62). -/
  second : Timer
  /-- The key sampling clock (R78). -/
  keyClock : Timer
  /-- The trip input's sampling clock (R167). -/
  tripClock : Timer
  /-- The Mode hold timer (R80). -/
  modeHold : Timer
  /-- The chord timer (R82). -/
  chord : Timer
  /-- The stall timer (R123). -/
  stall : Timer
  /-- The time since the damper motor last stopped, for the pause (R120, R122). -/
  motorRest : Timer
  /-- The retry timer (R125). -/
  retry : Timer
  /-- The homing timer (R126, R127). -/
  homing : Timer
  /-- The H-bridge stage's period timer (R168). -/
  bridge : Timer
  /-- The time since a half of the bridge last stopped conducting (R168). -/
  bridgeDead : Timer
  /-- The period timers of the PWM channels (R164). -/
  pwmBlower : Timer
  pwmBypass : Timer
  pwmCompressor : Timer
  /-- The interval timers of the switched outputs, which saturate at 2 s (R169). -/
  valve : Timer
  fan : Timer
  heater : Timer
  /-- The time since the blink clock last turned (R170). -/
  blink : Timer
  /-- The period count and the high-time count of each capture channel, in capture ticks (R60). -/
  periodA : Timer
  highA : Timer
  periodB : Timer
  highB : Timer
  deriving DecidableEq, Repr

/-- The timers after a reset is asserted: everything on the crystal stands still, the interval timers stand at 2 s
(R171), and the supply monitor's clock runs (R184). -/
def Timers.atReset : Timers where
  round := .stopped
  run := .stopped
  mark := .stopped
  isolation := .stopped
  settle := .stopped
  chordHold := .stopped
  supplyClock := .started
  second := .stopped
  keyClock := .stopped
  tripClock := .stopped
  modeHold := .stopped
  chord := .stopped
  stall := .stopped
  motorRest := .stopped
  retry := .stopped
  homing := .stopped
  bridge := .stopped
  bridgeDead := .stopped
  pwmBlower := .stopped
  pwmBypass := .stopped
  pwmCompressor := .stopped
  valve := ⟨true, Config.intervalUs⟩
  fan := ⟨true, Config.intervalUs⟩
  heater := ⟨true, Config.intervalUs⟩
  blink := .stopped
  periodA := .stopped
  highA := .stopped
  periodB := .stopped
  highB := .stopped

/-! ### Reset and start-up -/

/-- The reset state (chapter 12, R185, R186). -/
inductive ResetState where
  | asserted
  | settling
  | checked
  | failed
  deriving DecidableEq, Repr

/-- The kind of the present reset (R185). Between resets it reads the kind of the last one: the model's choice, since
R185 speaks of the present reset alone (DESIGN CHOICE, notes/assumptions/29). -/
inductive ResetKind where
  | supply
  | pin
  deriving DecidableEq, Repr

/-- A station's role, fixed by its address strap (R186); `absent` before the straps are latched and for addresses 0
and 15. -/
inductive Role where
  | outdoor
  | handler
  | zone
  | absent
  deriving DecidableEq, Repr

/-- The reset and start-up block (chapter 12): state, kind, which of the four sources assert (R184), the count of
consecutive low supply samples, and the latched straps. -/
structure ResetBlock where
  state : ResetState
  kind : ResetKind
  powerOn : Bool
  monitor : Bool
  pin : Bool
  chord : Bool
  lowCount : Nat
  address : Nibble
  parameter : Nibble
  deriving DecidableEq, Repr

/-! ### The zone line -/

/-- The receive states (R5, R6). -/
inductive RxState where
  | idle
  | syncSeen
  | guard
  | window
  deriving DecidableEq, Repr

/-- Where the Pa expiry of the round timer stands (R12): still ahead, deferred behind a dominant run, or met. -/
inductive Pace where
  | ahead
  | deferred
  | met
  deriving DecidableEq, Repr

/-- The outcome of an arbitrated field a station took part in (R18). -/
inductive Arbitration where
  | won
  | lost
  deriving DecidableEq, Repr

/-- The outcomes of a round's MAX fields; `none` where the station took no part or the field is not finished (R18). -/
structure Outcomes where
  idx : Option Arbitration
  peakc : Option Arbitration
  peakh : Option Arbitration
  state : Option Arbitration
  directive : Option Arbitration
  deriving DecidableEq, Repr

/-- No outcome. -/
def Outcomes.cleared : Outcomes := ⟨none, none, none, none, none⟩

/-- The wire fields of a round, in transmission order (R20). -/
structure View where
  idx : Nibble
  pres : Bitmap
  callc : Bitmap
  callh : Bitmap
  calld : Bitmap
  peakc : Byte
  peakh : Byte
  plant : Byte
  state : BitVec 12
  share : SlotBits
  slow : SlotBits
  directive : BitVec 24
  reply : BitVec 16
  flags : BitVec 4
  check : BitVec 12
  deriving DecidableEq, Repr

/-- Every field 0 (R38). -/
def View.zero : View := ⟨0, 0, 0, 0, 0, 0, 0, 0, 0, 0, 0, 0, 0, 0, 0⟩

/-- The line transceiver and round timer (chapter 1): the receive state, the level on the wire, the marks of R12 and
R14, the round's framing mark, drive permission (R2), the arbitration outcomes (R18), and the values the station itself
drove, field by field, in the last window it read to its end or to a cut (the drive and compare logic, R1, R15 to
R19). -/
structure LineBlock where
  rx : RxState
  dominant : Bool
  pace : Pace
  silenceWaits : Bool
  framing : Bool
  permission : Bool
  outcomes : Outcomes
  driven : View
  deriving DecidableEq, Repr

/-- The line block after any reset (R6, R2). -/
def LineBlock.atReset : LineBlock where
  rx := .idle
  dominant := false
  pace := .ahead
  silenceWaits := false
  framing := false
  permission := false
  outcomes := .cleared
  driven := .zero

/-! ### The round assembler -/

/-- The round image: what the station drives in the round (R15, R21). `idx` is the sent index; an absent peak,
directive or reply is a field the station takes no part in; `invertCheck` is the CORRUPT_CHECK exception of R36. -/
structure Image where
  idx : Nibble
  pres : Bitmap
  callc : Bitmap
  callh : Bitmap
  calld : Bitmap
  peakc : Option Byte
  peakh : Option Byte
  plant : Byte
  state : BitVec 12
  share : Byte
  slow : Byte
  directive : Option (BitVec 24)
  reply : Option (BitVec 16)
  flags : BitVec 4
  invertCheck : Bool
  deriving DecidableEq, Repr

/-- The round assembler: the round index (R22) and the image of the round in progress or last driven (R15). -/
structure Assembler where
  index : Nibble
  image : Option Image
  deriving DecidableEq, Repr

/-- The round assembler after any reset: index 15, no image (R22). -/
def Assembler.atReset : Assembler := ⟨15, none⟩

/-! ### Acceptance and health -/

/-- One PLANT flag of the agreement filter: the filtered bit and its agreement count (R45). -/
structure FlagFilter where
  value : Bool
  agree : Nat
  deriving DecidableEq, Repr

/-- Clear, count 0 (R46). -/
def FlagFilter.cleared : FlagFilter := ⟨false, 0⟩

/-- The filtered PLANT copy, flag by flag (R27, R45). -/
structure PlantFilter where
  hpTrip : FlagFilter
  supplyHot : FlagFilter
  fanRun : FlagFilter
  coilFrost : FlagFilter
  overflow : FlagFilter
  lockout : FlagFilter
  defrost : FlagFilter
  compRun : FlagFilter
  deriving DecidableEq, Repr

/-- All zeros with every count 0 (R46). -/
def PlantFilter.cleared : PlantFilter :=
  ⟨.cleared, .cleared, .cleared, .cleared, .cleared, .cleared, .cleared, .cleared⟩

/-- The link states (section 3.6, R49). -/
inductive LinkState where
  | quiet
  | listen
  | joined
  | holdover
  | isolated
  deriving DecidableEq, Repr

/-- What a decision on a round says, a bad one with its cause (R37). -/
inductive Verdict where
  | accepted
  | missing
  | incomplete
  | framing
  | mismatch
  deriving DecidableEq, Repr

/-- The acceptance and health block (chapter 3): the accepted round view, the candidate view of the round being read
(`none` when no round is being read), the check register, the record of the last decision, the DISAGREE flag, the error
counts, the consecutive-bad and joining counts, the PLANT filter, the clash detector and the link state. -/
structure Health where
  view : View
  candidate : Option View
  check : BitVec 12
  lastAccepted : Bool
  disagree : Bool
  nearEnd : Nat
  farEnd : Nat
  badRun : Nat
  joining : Nat
  plant : PlantFilter
  clashMark : Bool
  clashCount : Nat
  addressClash : Bool
  link : LinkState
  deriving DecidableEq, Repr

/-- The acceptance and health block after any reset (R58). -/
def Health.atReset : Health where
  view := .zero
  candidate := none
  check := 0
  lastAccepted := false
  disagree := false
  nearEnd := 0
  farEnd := 0
  badRun := 0
  joining := 0
  plant := .cleared
  clashMark := false
  clashCount := 0
  addressClash := false
  link := .quiet

/-! ### Measurement -/

/-- The capture states (R60). -/
inductive CaptureState where
  | stopped
  | waitEdge
  | high
  | low
  deriving DecidableEq, Repr

/-- One channel of the measurement block (chapter 4): the capture state, the latched pair, the fresh flag, the sample
ring (oldest first) and the consecutive-miss count. Its running counts are timers; its reading is formed from the
ring. -/
structure CaptureChannel where
  state : CaptureState
  p : Nat
  h : Nat
  fresh : Bool
  ring : List Nat
  misses : Nat
  deriving DecidableEq, Repr

/-- A channel after any reset (R73). -/
def CaptureChannel.atReset : CaptureChannel := ⟨.stopped, 0, 0, false, [], 0⟩

/-- The measurement block. -/
structure Measurement where
  a : CaptureChannel
  b : CaptureChannel
  deriving DecidableEq, Repr

/-- The measurement block after any reset (R73). -/
def Measurement.atReset : Measurement := ⟨.atReset, .atReset⟩

/-! ### Collective mode -/

/-- The modes of the house (R25). -/
inductive Mode where
  | off
  | fan
  | dry
  | cool
  | heat
  deriving DecidableEq, Repr

/-- A mode and a hold: the collective state, or a proposal (R95). -/
structure Collective where
  mode : Mode
  hold : Nat
  deriving DecidableEq, Repr

/-- `(OFF, 0)`. -/
def Collective.rest : Collective := ⟨.off, 0⟩

/-- The collective mode block (chapter 6). -/
structure CollectiveBlock where
  state : Collective
  proposal : Collective
  deriving DecidableEq, Repr

/-- The collective mode block after any reset (R112). -/
def CollectiveBlock.atReset : CollectiveBlock := ⟨.rest, .rest⟩

/-! ### Zone demand -/

/-- The zone settings (R75). -/
inductive ZoneSetting where
  | auto
  | coolOnly
  | heatOnly
  | off
  deriving DecidableEq, Repr

/-- The call states (R83). -/
inductive Call where
  | none
  | cool
  | heat
  | dry
  deriving DecidableEq, Repr

/-- The settings of a zone: set points in deci-degrees, humidity limit in tenths of a percent, zone setting
(R74, R75). -/
structure Settings where
  sc : Int
  sh : Int
  hl : Int
  setting : ZoneSetting
  deriving DecidableEq, Repr

/-- The settings a supply reset leaves (R74, R77). -/
def Settings.default : Settings := ⟨240, 200, 550, .auto⟩

/-- The states of a key (R78). -/
inductive KeyState where
  | released
  | pressed
  | blocked
  deriving DecidableEq, Repr

/-- A key's debouncer: its state and its last two samples, newest first, fewer while fewer were taken (R78). -/
structure KeyBlock where
  state : KeyState
  samples : List Bool
  deriving DecidableEq, Repr

/-- A key after any reset: BLOCKED until its first two samples (R94). -/
def KeyBlock.atReset : KeyBlock := ⟨.blocked, []⟩

/-- The zone demand block (chapter 5): settings, call state, integral accumulator A, demand D, served mark, keys. -/
structure Zone where
  settings : Settings
  call : Call
  a : Nat
  d : Nat
  served : Bool
  up : KeyBlock
  down : KeyBlock
  mode : KeyBlock
  deriving DecidableEq, Repr

/-- The zone demand block after a supply reset; a pin reset keeps the settings (R94). -/
def Zone.atReset : Zone := ⟨.default, .none, 0, 0, false, .atReset, .atReset, .atReset⟩

/-! ### Apportionment and damper -/

/-- The two directions of the damper motor and halves of its bridge (R120, R168). -/
inductive Direction where
  | opening
  | closing
  deriving DecidableEq, Repr

/-- The eight states of the damper machine (R120). -/
inductive DamperState where
  | parked
  | homing
  | hold
  | opening
  | closing
  | pause
  | retry
  | fault
  deriving DecidableEq, Repr

/-- The apportionment and damper block (chapter 7): request R, grant G, position p, the pending target and the target
in effect, the machine state, whether a PAUSE leads into homing (R126), the direction of the last drive, the position
counter, the stall count, the damper fault and the homing-complete mark. -/
structure Damper where
  request : Nat
  grant : Nat
  percent : Nat
  pending : Nat
  target : Nat
  machine : DamperState
  homingPause : Bool
  lastDrive : Direction
  position : Nat
  stalls : Nat
  fault : Bool
  homed : Bool
  deriving DecidableEq, Repr

/-- The apportionment and damper block after any reset (R130). The position p, which R130 leaves out, is the 100 % that
the pending target of 400 stands for (notes/assumptions/16). -/
def Damper.atReset : Damper where
  request := 0
  grant := 0
  percent := 100
  pending := 400
  target := 400
  machine := .parked
  homingPause := false
  lastDrive := .closing
  position := 400
  stalls := 0
  fault := false
  homed := false

/-! ### Handler logic -/

/-- The handler logic (chapter 8): the blower target Fb, the pending duty and the duty in effect, the pending bypass
and the bypass in effect, the cold-blow hold with its count and its record of filtered COMP_RUN, COIL_FROST and
SUPPLY_HOT with their run counts, and the auxiliary heat machine with its run count. -/
structure Handler where
  fb : Nat
  pendingDuty : Nat
  duty : Nat
  pendingBypass : Nat
  bypass : Nat
  holdActive : Bool
  holdCount : Nat
  compRecord : Bool
  coilFrost : Bool
  frostRun : Nat
  supplyHot : Bool
  hotRun : Nat
  auxOn : Bool
  auxRun : Nat
  deriving DecidableEq, Repr

/-- The handler logic after any reset (R146). -/
def Handler.atReset : Handler where
  fb := 0
  pendingDuty := 0
  duty := 0
  pendingBypass := 100
  bypass := 100
  holdActive := false
  holdCount := 0
  compRecord := false
  coilFrost := false
  frostRun := 0
  supplyHot := false
  hotRun := 0
  auxOn := false
  auxRun := 0

/-! ### Outdoor logic -/

/-- The states of the compressor machine (R149). -/
inductive CompState where
  | stopped
  | minOff
  | starting
  | running
  | stoppingMinRun
  | tripped
  deriving DecidableEq, Repr

/-- The side of a compressor run (R150). -/
inductive Side where
  | cooling
  | heating
  deriving DecidableEq, Repr

/-- The states of the defrost machine (R156). -/
inductive DefrostState where
  | normal
  | defrost
  | drip
  deriving DecidableEq, Repr

/-- The outdoor logic (chapter 9): the pending capacity target and Ct, the compressor machine (state, speed S, side of
the run, run timer, minimum off timer, frost stop count), the defrost machine (state, run accumulator, entry count,
phase timer), the trip history (ages in seconds, oldest first) and LOCKOUT. -/
structure Outdoor where
  pendingCt : Nat
  ct : Nat
  comp : CompState
  speed : Nat
  side : Option Side
  runTimer : Nat
  offTimer : Nat
  frostStop : Nat
  defrost : DefrostState
  accumulator : Nat
  entryCount : Nat
  phase : Nat
  trips : List Nat
  lockout : Bool
  deriving DecidableEq, Repr

/-- The outdoor logic after a supply reset; a pin reset keeps the trip history and LOCKOUT (R163). -/
def Outdoor.atReset : Outdoor where
  pendingCt := 0
  ct := 0
  comp := .minOff
  speed := 0
  side := none
  runTimer := 0
  offTimer := 0
  frostStop := 0
  defrost := .normal
  accumulator := 0
  entryCount := 0
  phase := 0
  trips := []
  lockout := false

/-! ### Output stages -/

/-- A PWM channel: applied duty, staged duty and pending mark, in permille (R164). -/
structure Pwm where
  applied : Nat
  staged : Nat
  pending : Bool
  deriving DecidableEq, Repr

/-- A channel at its stopped level (R165). -/
def Pwm.atReset : Pwm := ⟨0, 0, false⟩

/-- The H-bridge stage: the half asked for, the half conducting, and the half that last stopped conducting, whose time
since is a timer (R168). -/
structure Bridge where
  asked : Option Direction
  conducting : Option Direction
  lastHalf : Option Direction
  deriving DecidableEq, Repr

/-- Both halves stopped (R171). -/
def Bridge.atReset : Bridge := ⟨none, none, none⟩

/-- A switched output: its applied level and its held request (R169). -/
structure Switched where
  on : Bool
  held : Option Bool
  deriving DecidableEq, Repr

/-- A switched output after any reset: off, nothing held (R171). -/
def Switched.atReset : Switched := ⟨false, none⟩

/-- The output stages (chapter 10): the PWM channels with the compressor channel's trip hold mark, the H-bridge, the
switched outputs, the trip input filter and the blink clock's phase. -/
structure Output where
  blower : Pwm
  bypass : Pwm
  compressor : Pwm
  tripHold : Bool
  bridge : Bridge
  valve : Switched
  fan : Switched
  heater : Switched
  tripActive : Bool
  tripRun : Nat
  blinkLit : Bool
  deriving DecidableEq, Repr

/-- The output stages after any reset (R171). -/
def Output.atReset : Output where
  blower := .atReset
  bypass := .atReset
  compressor := .atReset
  tripHold := false
  bridge := .atReset
  valve := .atReset
  fan := .atReset
  heater := .atReset
  tripActive := false
  tripRun := 0
  blinkLit := true

/-! ### Directive unit -/

/-- An entry of the transmit queue (R173). -/
structure QueueEntry where
  code : Byte
  arg : Byte
  wins : Nat
  age : Nat
  deriving DecidableEq, Repr

/-- A directive in its four parts (R172). -/
structure Directive where
  source : Nibble
  dest : Nibble
  code : Byte
  arg : Byte
  deriving DecidableEq, Repr

/-- The outcome of an execution: DONE or UNABLE, and a data byte (R176, R177). -/
structure ExecResult where
  done : Bool
  data : Byte
  deriving DecidableEq, Repr

/-- The reception tracker: last value, count, and the outcome of the execution, present while the executed mark is set
(R176). -/
structure Tracker where
  last : Option Directive
  count : Nat
  executed : Option ExecResult
  deriving DecidableEq, Repr

/-- The empty tracker (R176). -/
def Tracker.cleared : Tracker := ⟨none, 0, none⟩

/-- A reply the station owes: status 1 SEEN, 2 DONE or 3 UNABLE, and data (R29, R178). -/
structure Reply where
  status : Nibble
  data : Byte
  deriving DecidableEq, Repr

/-- The latched test set, one place for each kind: the role test with its limited argument, CORRUPT_CHECK,
MUTE_COUNT (R181). -/
structure TestSet where
  role : Option Byte
  corrupt : Bool
  mute : Bool
  deriving DecidableEq, Repr

/-- No test latched. -/
def TestSet.cleared : TestSet := ⟨none, false, false⟩

/-- The directive unit (chapter 11): the transmit queue (head first), the reception tracker, the pending reply and the
latched test set. -/
structure DirectiveUnit where
  queue : List QueueEntry
  tracker : Tracker
  reply : Option Reply
  tests : TestSet
  deriving DecidableEq, Repr

/-- The directive unit after any reset (R183). -/
def DirectiveUnit.atReset : DirectiveUnit := ⟨[], .cleared, none, .cleared⟩

/-! ### The station -/

/-- One station: the commands that wait, first in first out, and every block. -/
structure State where
  pending : List Instr
  rst : ResetBlock
  line : LineBlock
  asm : Assembler
  health : Health
  meas : Measurement
  coll : CollectiveBlock
  zone : Zone
  damper : Damper
  handler : Handler
  outdoor : Outdoor
  out : Output
  dir : DirectiveUnit
  timers : Timers
  deriving DecidableEq, Repr

/-- The machine right after reset: supply has just been applied, so the power-on source asserts a reset of kind SUPPLY
(R184, R185), and every block holds the value its chapter gives for that reset. The straps, which no rule gives a value
before they are latched, read 0 (notes/assumptions/5). -/
def State.reset : State where
  pending := []
  rst :=
    { state := .asserted
      kind := .supply
      powerOn := true
      monitor := false
      pin := false
      chord := false
      lowCount := 0
      address := 0
      parameter := 0 }
  line := .atReset
  asm := .atReset
  health := .atReset
  meas := .atReset
  coll := .atReset
  zone := .atReset
  damper := .atReset
  handler := .atReset
  outdoor := .atReset
  out := .atReset
  dir := .atReset
  timers := .atReset

end Sys2Proof.Machine
end

