-- ==== Sys2Proof/Machine/Operands.lean ====
section
/-! DEFINITION. Operand forms: rounding and limiting, the codes of the line, the field layout of a round, the bits of
a field, arbitration, the check, and the parts of DIRECTIVE and STATE. All are functions of their arguments alone. -/

namespace Sys2Proof.Machine

/-! ### Rounding and limiting (00_scope.md) -/

/-- `a / b` rounded to nearest, halves up: floor((2a + b) / (2b)). -/
def roundNearest (a b : Nat) : Nat := (2 * a + b) / (2 * b)

/-- `a / b` rounded up: floor((a + b − 1) / b). -/
def roundUp (a b : Nat) : Nat := (a + b - 1) / b

/-- `x` limited to `lo..hi`. -/
def limitTo (lo hi x : Nat) : Nat := max lo (min hi x)

/-- A signed `x` limited to `lo..hi`. -/
def limitInt (lo hi x : Int) : Int := max lo (min hi x)

/-! ### Codes (R30, R31) -/

/-- The temperature code of `t` deci-degrees (R30). -/
def tempCode (t : Int) : Byte :=
  if t + 200 < 0 then 0 else BitVec.ofNat 8 (min 255 ((2 * (t + 200).toNat + 5) / 10))

/-- What a temperature code decodes to, in deci-degrees (R30). -/
def tempOfCode (c : Byte) : Int := -200 + 5 * (c.toNat : Int)

/-- The humidity code of `h` tenths of a percent (R31). -/
def humCode (h : Int) : Byte := BitVec.ofNat 8 (min 200 ((2 * h.toNat + 5) / 10))

/-- What a humidity code decodes to, in tenths of a percent (R31). -/
def humOfCode (c : Byte) : Int := 5 * (c.toNat : Int)

/-! ### Roles and straps (R186) -/

/-- The role an address strap fixes. -/
def roleOf (address : Nibble) : Role :=
  if address = 1 then .outdoor
  else if address = 2 then .handler
  else if address = 0 ∨ address = 15 then .absent
  else .zone

/-- The strap check (R186). -/
def strapsPass (address parameter : Nibble) : Bool :=
  match roleOf address with
  | .absent => false
  | .zone => decide (parameter ≠ 0)
  | .outdoor => true
  | .handler => true

/-! ### Modes and the STATE field (R25) -/

/-- The mode code (R25). -/
def modeCode : Mode → Nat
  | .off => 0
  | .fan => 1
  | .dry => 2
  | .cool => 3
  | .heat => 4

/-- The mode a code names; codes 5 to 7 name none (R25). -/
def modeOfCode (n : Nat) : Option Mode :=
  match n with
  | 0 => some .off
  | 1 => some .fan
  | 2 => some .dry
  | 3 => some .cool
  | 4 => some .heat
  | _ => none

/-- A collective state as the 12-bit value 512 × mode + hold (R25). -/
def packState (c : Collective) : BitVec 12 := BitVec.ofNat 12 (512 * modeCode c.mode + c.hold)

/-- The collective state a wire STATE reads as: floor(value / 512) and value mod 512, where the mode code names a mode
(R25, R105, R106). -/
def unpackState (v : BitVec 12) : Option Collective :=
  match modeOfCode (v.toNat / 512) with
  | some m => some ⟨m, v.toNat % 512⟩
  | none => none

/-! ### The field layout (R8, R20) -/

/-- The window position of data bit `d` (R8). -/
def dataPosition (d : Nat) : Nat := d + d / 4

/-- The window position of spacer `k`, counted from 0 (R8). -/
def spacerPosition (k : Nat) : Nat := 5 * k + 4

/-- The level a window carries at position `j` of the field window (R8). -/
def levelAt (w : Window) (j : Nat) : Bool :=
  if j % 5 = 4 then w.spacers.getMsbD (j / 5) else w.data.getMsbD (j - j / 5)

/-- The field of `width` bits whose first bit is data bit `start` (R20: most significant bit first). -/
def fieldAt (start width : Nat) (x : RoundBits) : BitVec width := x.extractLsb' (384 - start - width) width

/-- The data bits of a round that carries `v` at the field whose first bit is data bit `start`, and is recessive
elsewhere. -/
def placeAt (start : Nat) {width : Nat} (v : BitVec width) : RoundBits :=
  v.setWidth 384 <<< (384 - start - width)

/-- The fields of the data bits as read, by position (R20). -/
def viewOf (x : RoundBits) : View where
  idx := fieldAt 0 4 x
  pres := fieldAt 4 16 x
  callc := fieldAt 20 16 x
  callh := fieldAt 36 16 x
  calld := fieldAt 52 16 x
  peakc := fieldAt 68 8 x
  peakh := fieldAt 76 8 x
  plant := fieldAt 84 8 x
  state := fieldAt 92 12 x
  share := fieldAt 104 112 x
  slow := fieldAt 216 112 x
  directive := fieldAt 328 24 x
  reply := fieldAt 352 16 x
  flags := fieldAt 368 4 x
  check := fieldAt 372 12 x

/-- The data bits of a round that carries the fields of `v` (R20): the way back from `viewOf`. -/
def bitsOf (v : View) : RoundBits :=
  placeAt 0 v.idx ||| placeAt 4 v.pres ||| placeAt 20 v.callc ||| placeAt 36 v.callh ||| placeAt 52 v.calld |||
    placeAt 68 v.peakc ||| placeAt 76 v.peakh ||| placeAt 84 v.plant ||| placeAt 92 v.state ||| placeAt 104 v.share |||
    placeAt 216 v.slow ||| placeAt 328 v.directive ||| placeAt 352 v.reply ||| placeAt 368 v.flags |||
    placeAt 372 v.check

/-- The byte in the slot of station `a` of a slot field (R19); 0 for an address that has no slot. -/
def slotByte (x : SlotBits) (a : Nat) : Byte :=
  if 1 ≤ a ∧ a ≤ 14 then x.extractLsb' (8 * (14 - a)) 8 else 0

/-- The slot field that carries `b` in the slot of station `a` and is recessive elsewhere (R19). -/
def placeSlot (a : Nat) (b : Byte) : SlotBits := b.setWidth 112 <<< (8 * (14 - a))

/-- The first data bit of station `a`'s slot in the slot field that begins at data bit `start` (R20). -/
def slotStart (start a : Nat) : Nat := start + 8 * (a - 1)

/-- The number of bits set among bits 1 to 14 of a bitmap (R16, R24). -/
def countBits (b : Bitmap) : Nat := ((List.range 14).filter fun i => b.getLsbD (i + 1)).length

/-- The bitmap that carries the bit of station `a` alone (R16). -/
def addressBit (a : Nibble) : Bitmap := 1#16 <<< a.toNat

/-- nC of a view (R24). -/
def View.nC (v : View) : Nat := countBits v.callc

/-- nH of a view (R24). -/
def View.nH (v : View) : Nat := countBits v.callh

/-- nD of a view (R24). -/
def View.nD (v : View) : Nat := countBits v.calld

/-- Rtot: the sum of the SHARE bytes of stations 3 to 14 (R116). -/
def View.rtot (v : View) : Nat :=
  ((List.range 12).map fun i => (slotByte v.share (i + 3)).toNat).sum

/-- Fcap as every station reads it: 8 × the byte of station 2 when PRES bit 2 is set, 0 otherwise (R116). -/
def View.fcap (v : View) : Nat := if v.pres.getLsbD 2 then 8 * (slotByte v.share 2).toNat else 0

/-! ### Bits of a field, most significant first -/

/-- The bits of a field in transmission order (R20). -/
def bitList {w : Nat} (v : BitVec w) : List Bool := (List.range w).map fun i => v.getMsbD i

/-- The number whose bits in transmission order are given. -/
def natOfBits (bs : List Bool) : Nat := bs.foldl (fun n b => 2 * n + b.toNat) 0

/-! ### MAX arbitration (R18) -/

/-- What a station drives in a MAX field and how it comes out, from its own bits and the bits it reads, in
transmission order: it sends its bits until it drives recessive and reads dominant, and then drives recessive to the
end of the field (R18). -/
def arbitrate : List Bool → List Bool → List Bool × Arbitration
  | own :: owns, wire :: wires =>
    if !own && wire then (false :: owns.map fun _ => false, .lost)
    else
      let rest := arbitrate owns wires
      (own :: rest.1, rest.2)
  | owns, _ => (owns, .won)

/-- The value a station drives in a MAX field (R18). -/
def arbitrated {w : Nat} (own wire : BitVec w) : BitVec w :=
  BitVec.ofNat w (natOfBits (arbitrate (bitList own) (bitList wire)).1)

/-- A station's outcome in a MAX field (R18). -/
def arbitrationOf {w : Nat} (own wire : BitVec w) : Arbitration :=
  (arbitrate (bitList own) (bitList wire)).2

/-- A bit that the station drove recessive and read dominant (R1, R19). -/
def overdriven {w : Nat} (own wire : BitVec w) : Bool := decide (wire &&& ~~~own ≠ 0)

/-- The wire's value at one bit time when several parties drive it: dominant while at least one asserts dominant
(R1). -/
def wireLevel (driven : List Bool) : Bool := driven.any id

/-! ### The check (R35) -/

/-- Feeding one bit into the check register (R35). -/
def feedCheck (r : BitVec 12) (bit : Bool) : BitVec 12 :=
  if (r.getMsbD 0 ^^ bit) = true then (r <<< 1) ^^^ 0x293#12 else r <<< 1

/-- The check register after feeding a list of bits in order, from all ones (R35). -/
def checkOf (bs : List Bool) : BitVec 12 := bs.foldl feedCheck 0xFFF#12

/-- The first `n` data bits in transmission order. -/
def firstBits (n : Nat) (x : RoundBits) : List Bool := (List.range n).map fun i => x.getMsbD i

/-- The computed check of a round: over data bits 0 to 371 as read (R35). -/
def computedCheck (x : RoundBits) : BitVec 12 := checkOf (firstBits 372 x)

/-- The data bits with all but the first `n` recessive: the bits a cut-short window has brought (R10). -/
def keepFirst (n : Nat) (x : RoundBits) : RoundBits :=
  if n ≥ 384 then x else (x >>> (384 - n)) <<< (384 - n)

/-- How many data bits the first `n` bits of a round hold: two guards, then four data bits and a spacer in turn (R3,
R8). -/
def dataBitsIn (n : Nat) : Nat := (n - 2) - (n - 2) / 5

/-- How many of the 482 bits of a round have been sampled `us` microseconds after its start: bit k, the two guards first,
is sampled at its middle, k + 0.5 bit times after the start (R3). -/
def samplesBy (us : Nat) : Nat := min 482 ((6 * us + 2500) / 5000)

/-- How many of the 482 bits of a round have ended `us` microseconds after its start: bit k, the two guards first, ends
k + 1 bit times after the start (R3). -/
def bitsEndedBy (us : Nat) : Nat := min 482 (3 * us / 2500)

/-! ### Directives (R29, R172) -/

/-- A directive as the 24-bit value of the DIRECTIVE field (R29). -/
def packDirective (d : Directive) : BitVec 24 := ((15#4 - d.source) ++ d.dest) ++ (d.code ++ d.arg)

/-- The directive a DIRECTIVE field carries; a priority part of 0 is an empty field (R172). -/
def unpackDirective (v : BitVec 24) : Option Directive :=
  if v.extractLsb' 20 4 = 0 then none
  else some ⟨15#4 - v.extractLsb' 20 4, v.extractLsb' 16 4, v.extractLsb' 8 8, v.extractLsb' 0 8⟩

/-- A reply as the 16-bit value of REPLY (R29). -/
def packReply (responder : Nibble) (r : Reply) : BitVec 16 := (responder ++ r.status) ++ r.data

/-- A directive is addressed to a station when its destination is the station's own address or 15 (R172). -/
def Directive.addressedTo (d : Directive) (address : Nibble) : Bool := d.dest = address ∨ d.dest = 15

/-! ### Calls and modes -/

/-- A call matches a collective mode (the mode-match table of R86). -/
def callMatches (c : Call) (m : Mode) : Bool :=
  match m, c with
  | .fan, .cool => true
  | .fan, .heat => true
  | .fan, .dry => true
  | .dry, .dry => true
  | .dry, .cool => true
  | .cool, .cool => true
  | .cool, .dry => true
  | .heat, .heat => true
  | _, _ => false

/-- The call's code in slow item 11 (R32). -/
def callCode : Call → Nat
  | .none => 0
  | .cool => 1
  | .heat => 2
  | .dry => 3

/-- The zone setting's code (R75). -/
def settingCode : ZoneSetting → Nat
  | .auto => 0
  | .coolOnly => 1
  | .heatOnly => 2
  | .off => 3

/-- The zone setting a code names (R75, R76). -/
def settingOfCode (n : Nat) : Option ZoneSetting :=
  match n with
  | 0 => some .auto
  | 1 => some .coolOnly
  | 2 => some .heatOnly
  | 3 => some .off
  | _ => none

/-- COOL and DRY are allowed in AUTO and COOL_ONLY (R75). -/
def ZoneSetting.coolAllowed : ZoneSetting → Bool
  | .auto => true
  | .coolOnly => true
  | .heatOnly => false
  | .off => false

/-- HEAT is allowed in AUTO and HEAT_ONLY (R75). -/
def ZoneSetting.heatAllowed : ZoneSetting → Bool
  | .auto => true
  | .coolOnly => false
  | .heatOnly => true
  | .off => false

/-- The link state code (R34). -/
def linkCode : LinkState → Nat
  | .quiet => 0
  | .listen => 1
  | .joined => 2
  | .holdover => 3
  | .isolated => 4

/-- The compressor machine's state code (R33, R149). -/
def compCode : CompState → Nat
  | .stopped => 0
  | .minOff => 1
  | .starting => 2
  | .running => 3
  | .stoppingMinRun => 4
  | .tripped => 5

/-- The running states of the compressor machine (R149). -/
def CompState.isRunning : CompState → Bool
  | .starting => true
  | .running => true
  | .stoppingMinRun => true
  | .stopped => false
  | .minOff => false
  | .tripped => false

/-- The defrost state's code (R33). -/
def defrostCode : DefrostState → Nat
  | .normal => 0
  | .defrost => 1
  | .drip => 2

/-- The other half of the bridge, or direction of the motor. -/
def Direction.other : Direction → Direction
  | .opening => .closing
  | .closing => .opening

end Sys2Proof.Machine
end

