-- ==== Sys2Proof/Machine/Ops.lean ====
section
/-! DEFINITION. The shared operations: time, the role, the settings path, PWM channels, switched outputs, the H-bridge
stage and the sensors' readings. -/

namespace Sys2Proof.Machine

/-! ### Time (notes/assumptions/2, 3)

A running timer shows the time since it was started. A step that is a timer's expiry first lets pass the time that is
missing to the expiry, for every running timer of the station. -/

/-- A timer after `dt` microseconds. -/
def Timer.elapse (dt : Nat) (t : Timer) : Timer := if t.running then ⟨true, t.us + dt⟩ else t

/-- A timer that saturates at `cap`, after `dt` microseconds. -/
def Timer.elapseUpTo (cap dt : Nat) (t : Timer) : Timer := if t.running then ⟨true, min cap (t.us + dt)⟩ else t

/-- Every timer after `dt` microseconds. The interval timers saturate at 2 s (R169) and the capture counts at 65535
ticks (R60). -/
def Timers.elapse (dt : Nat) (t : Timers) : Timers where
  round := t.round.elapse dt
  run := t.run.elapse dt
  mark := t.mark.elapse dt
  isolation := t.isolation.elapse dt
  settle := t.settle.elapse dt
  chordHold := t.chordHold.elapse dt
  supplyClock := t.supplyClock.elapse dt
  second := t.second.elapse dt
  keyClock := t.keyClock.elapse dt
  tripClock := t.tripClock.elapse dt
  modeHold := t.modeHold.elapse dt
  chord := t.chord.elapse dt
  stall := t.stall.elapse dt
  motorRest := t.motorRest.elapse dt
  retry := t.retry.elapse dt
  homing := t.homing.elapse dt
  bridge := t.bridge.elapse dt
  bridgeDead := t.bridgeDead.elapse dt
  pwmBlower := t.pwmBlower.elapse dt
  pwmBypass := t.pwmBypass.elapse dt
  pwmCompressor := t.pwmCompressor.elapse dt
  valve := t.valve.elapseUpTo Config.intervalUs dt
  fan := t.fan.elapseUpTo Config.intervalUs dt
  heater := t.heater.elapseUpTo Config.intervalUs dt
  blink := t.blink.elapse dt
  periodA := t.periodA.elapseUpTo Config.captureMax dt
  highA := t.highA.elapseUpTo Config.captureMax dt
  periodB := t.periodB.elapseUpTo Config.captureMax dt
  highB := t.highB.elapseUpTo Config.captureMax dt

/-- The receive state when the round timer shows `us`: GUARD ends with the second guard bit (R3, R6, R7). -/
def rxAfterGuard (rx : RxState) (us : Nat) : RxState :=
  if rx = .guard ∧ Config.bitsUs Config.guardBits ≤ us then .window else rx

/-- The station after `dt` microseconds in which no event comes. -/
def elapse (dt : Nat) (s : State) : State :=
  { s with
    timers := s.timers.elapse dt
    line := { s.line with rx := rxAfterGuard s.line.rx (s.timers.elapse dt).round.us } }

/-- The station at the moment the timer `t` shows `limit`; at once if it already does. -/
def elapseTo (t : Timer) (limit : Nat) (s : State) : State := elapse (limit - t.us) s

/-! ### Role and straps -/

/-- The station's role (R186). -/
def State.role (s : State) : Role := roleOf s.rst.address

/-- The parameter strap as a number (R113, R131, R156). -/
def State.param (s : State) : Nat := s.rst.parameter.toNat

/-- The period Pa of the station's round timer (R11). -/
def State.paUs (s : State) : Nat := Config.paUs s.rst.address.toNat

/-- The receive side works in every link state but QUIET (R2). -/
def State.receives (s : State) : Bool := decide (s.health.link ≠ .quiet)

/-- A station drives the line only in JOINED or HOLDOVER (R2). -/
def State.mayDrive (s : State) : Bool := decide (s.health.link = .joined ∨ s.health.link = .holdover)

/-- The straps were checked and passed: the station has entered LISTEN (R186, R187). -/
def State.started (s : State) : Bool := decide (s.rst.state = .checked)

/-- The collective mode as it stands (R96). -/
def State.mode (s : State) : Mode := s.coll.state.mode

/-- A zone's design airflow Qz (R113). -/
def State.qz (s : State) : Nat := 16 * s.param

/-- The handler's own ceiling, from its strap (R131). -/
def State.ownFcap (s : State) : Nat := 64 * (s.param + 1)

/-- The handler's floor: 3 × Fcap / 8 rounded down (R131). -/
def State.ownFmin (s : State) : Nat := 3 * s.ownFcap / 8

/-! ### The settings path (R74, R75) -/

/-- Setting Sc to `x` (R74). -/
def Settings.setSc (x : Int) (z : Settings) : Settings :=
  let sc := limitInt 180 320 x
  { z with sc := sc, sh := if sc - z.sh < 20 then sc - 20 else z.sh }

/-- Setting Sh to `x` (R74). -/
def Settings.setSh (x : Int) (z : Settings) : Settings :=
  let sh := limitInt 100 280 x
  { z with sh := sh, sc := if z.sc - sh < 20 then sh + 20 else z.sc }

/-- Moving both set points up by 5 (R74, R79). -/
def Settings.moveUp (z : Settings) : Settings :=
  let sh := limitInt 100 280 (z.sh + 5)
  let sc := limitInt 180 320 (z.sc + 5)
  { z with sc := sc, sh := if sc - sh < 20 then sc - 20 else sh }

/-- Moving both set points down by 5 (R74, R79). -/
def Settings.moveDown (z : Settings) : Settings :=
  let sh := limitInt 100 280 (z.sh - 5)
  let sc := limitInt 180 320 (z.sc - 5)
  { z with sh := sh, sc := if sc - sh < 20 then sh + 20 else sc }

/-- Setting Hl to `x` (R75). -/
def Settings.setHl (x : Int) (z : Settings) : Settings := { z with hl := limitInt 400 700 x }

/-- Setting the zone setting (R75). -/
def Settings.setSetting (x : ZoneSetting) (z : Settings) : Settings := { z with setting := x }

/-! ### PWM channels (R164 to R166) -/

/-- A write of a staged duty (R164). -/
def Pwm.write (duty : Nat) (c : Pwm) : Pwm := { c with staged := duty, pending := true }

/-- A period end: a pending staged duty is applied (R164). -/
def Pwm.periodEnd (c : Pwm) : Pwm := if c.pending then { c with applied := c.staged, pending := false } else c

/-- A stop: the stopped level at once, and nothing staged (R165). -/
def Pwm.stop (_ : Pwm) : Pwm := ⟨0, 0, false⟩

/-- A write to the compressor channel, discarded while the trip hold mark is set (R166). -/
def Output.writeCompressor (duty : Nat) (o : Output) : Output :=
  { o with compressor := if o.tripHold then o.compressor else o.compressor.write duty }

/-- A stop of the compressor channel (R165). -/
def Output.stopCompressor (o : Output) : Output := { o with compressor := o.compressor.stop }

/-! ### Switched outputs (R169) -/

/-- A request for `level` while the interval timer shows `us`: the applied level and the held request (R169). -/
def Switched.request (level : Bool) (us : Nat) (w : Switched) : Switched :=
  if level = w.on then { w with held := none }
  else if us < Config.intervalUs then { w with held := some level }
  else ⟨level, none⟩

/-- The interval timer reaches 2 s: a held request is applied (R169). -/
def Switched.intervalEnd (w : Switched) : Switched :=
  match w.held with
  | some level => ⟨level, none⟩
  | none => w

/-- The interval timer after a step that took an output from `before` to `after`: it restarts when the applied level
changes (R169). -/
def intervalAfter (before after : Switched) (t : Timer) : Timer := if before.on = after.on then t else .started

/-- A request for the reversing valve (R154, R169). -/
def requestValve (level : Bool) (o : Output) (t : Timers) : Output × Timers :=
  let w := o.valve.request level t.valve.us
  ({ o with valve := w }, { t with valve := intervalAfter o.valve w t.valve })

/-- A request for the outdoor fan (R155, R169). -/
def requestFan (level : Bool) (o : Output) (t : Timers) : Output × Timers :=
  let w := o.fan.request level t.fan.us
  ({ o with fan := w }, { t with fan := intervalAfter o.fan w t.fan })

/-- A request for the auxiliary heater (R141, R169). -/
def requestHeater (level : Bool) (o : Output) (t : Timers) : Output × Timers :=
  let w := o.heater.request level t.heater.us
  ({ o with heater := w }, { t with heater := intervalAfter o.heater w t.heater })

/-! ### The H-bridge stage (R168) -/

/-- The bridge with a half that conducts against `keep` stopped: a direction asked for keeps only its own half. -/
def Bridge.stopUnless (keep : Option Direction) (b : Bridge) : Bridge :=
  match b.conducting with
  | some h => if keep = some h then b else { b with conducting := none, lastHalf := some h }
  | none => b

/-- The drive asked for, `none` for stopped (R168). -/
def Bridge.ask (drive : Option Direction) (b : Bridge) : Bridge := { b.stopUnless drive with asked := drive }

/-- The dead time restarts when a half stops conducting (R168). -/
def deadAfter (before after : Bridge) (t : Timer) : Timer :=
  if before.conducting.isSome ∧ after.conducting = none then .started else t

/-- The dead time bars the half `d` while the other half stopped conducting less than 100 µs ago (R168). -/
def Bridge.barred (d : Direction) (dead : Timer) (b : Bridge) : Bool :=
  decide (b.lastHalf = some d.other ∧ dead.us < Config.deadUs)

/-- A period start: the half asked for begins conducting once the dead time has passed (R168). -/
def Bridge.periodStart (dead : Timer) (b : Bridge) : Bridge :=
  match b.asked with
  | some d => if b.barred d dead then b else { b with conducting := some d }
  | none => b

/-! ### Readings (R64 to R69) -/

/-- A pair is well formed when P lies within 500..4000 and H within 1..P − 1 (R64). -/
def wellFormedPair (p h : Nat) : Bool := decide (500 ≤ p ∧ p ≤ 4000 ∧ 1 ≤ h ∧ h ≤ p - 1)

/-- The good sample a pair gives under the temperature conversion, if it gives one (R64, R65). -/
def tempSample (p h : Nat) : Option Nat :=
  if wellFormedPair p h then
    let v := roundNearest (2000 * h) p
    if 100 ≤ v ∧ v ≤ 1500 then some v else none
  else none

/-- The good sample a pair gives under the humidity conversion, if it gives one (R64, R66). -/
def humSample (p h : Nat) : Option Nat :=
  if wellFormedPair p h then some (min 1000 (roundNearest (1000 * h) p)) else none

/-- The mean ring value, once the ring holds four values (R69). -/
def ringMean (ring : List Nat) : Option Nat :=
  if ring.length < 4 then none else some (roundNearest ring.sum ring.length)

/-- The reading of a temperature channel, in deci-degrees (R69). -/
def CaptureChannel.temp (c : CaptureChannel) : Option Int := (ringMean c.ring).map fun m => (m : Int) - 500

/-- The reading of a humidity channel, in tenths of a percent (R69). -/
def CaptureChannel.humidity (c : CaptureChannel) : Option Int := (ringMean c.ring).map fun m => (m : Int)

/-- A channel is valid while its ring holds four values or more (R69). -/
def CaptureChannel.valid (c : CaptureChannel) : Bool := decide (4 ≤ c.ring.length)

/-- Room temperature, coil temperature or outdoor air temperature, by the role (R59). -/
def State.tempA (s : State) : Option Int := s.meas.a.temp

/-- Supply air temperature or outdoor coil temperature, by the role (R59). -/
def State.tempB (s : State) : Option Int := s.meas.b.temp

/-- Room humidity (R59). -/
def State.roomHumidity (s : State) : Option Int := s.meas.b.humidity

/-- A reading is valid and at or above a threshold. -/
def atLeast (r : Option Int) (x : Int) : Bool :=
  match r with
  | some t => decide (x ≤ t)
  | none => false

/-- A reading is valid and at or below a threshold. -/
def atMost (r : Option Int) (x : Int) : Bool :=
  match r with
  | some t => decide (t ≤ x)
  | none => false

/-! ### The latched test set and the transmit queue -/

/-- The number of entries in the latched test set (R181). -/
def TestSet.size (t : TestSet) : Nat := t.role.isSome.toNat + t.corrupt.toNat + t.mute.toNat

/-- An offer joins the queue whole or not at all; `room` says that the link state takes offers (R173). -/
def offer (room : Bool) (entries queue : List QueueEntry) : List QueueEntry :=
  if room ∧ queue.length + entries.length ≤ 4 then queue ++ entries else queue

end Sys2Proof.Machine
end

