-- ==== Sys2Proof/Machine/Flags.lean ====
section
/-! DEFINITION. Everything the station shows that is computed from other state: the PLANT flags it owns, its FLAGS, the
fault bits, the slow items, its SHARE byte, the indicators and the pin levels. -/

namespace Sys2Proof.Machine

/-- The weight of a flag that is set. -/
def weigh (b : Bool) (w : Nat) : Nat := if b then w else 0

/-! ### The PLANT flags a station owns (R27) -/

/-- FAN_RUN: the handler's applied blower duty is above 0 (R135). -/
def State.fanRun (s : State) : Bool := decide (s.role = .handler ∧ 0 < s.out.blower.applied)

/-- OVERFLOW: the handler's filtered trip input is active (R143). -/
def State.overflow (s : State) : Bool := decide (s.role = .handler) && s.out.tripActive

/-- HP_TRIP: the outdoor station's filtered trip input is active (R159). -/
def State.hpTrip (s : State) : Bool := decide (s.role = .outdoor) && s.out.tripActive

/-- DEFROST: the defrost state is DEFROST or DRIP (R155). -/
def State.defrosting (s : State) : Bool := decide (s.outdoor.defrost ≠ .normal)

/-- COMP_RUN: S is above 0 (R155). -/
def State.compRun (s : State) : Bool := decide (0 < s.outdoor.speed)

/-- The PLANT bits the station drives (R27). -/
def State.plantByte (s : State) : Byte :=
  match s.role with
  | .handler =>
    BitVec.ofNat 8 (weigh s.handler.supplyHot 64 + weigh s.fanRun 32 + weigh s.handler.coilFrost 16 + weigh s.overflow 8)
  | .outdoor =>
    BitVec.ofNat 8 (weigh s.hpTrip 128 + weigh s.outdoor.lockout 4 + weigh s.defrosting 2 + weigh s.compRun 1)
  | .zone => 0
  | .absent => 0

/-! ### FLAGS (R28) -/

/-- WARMUP: a zone's damper is homing, or in the PAUSE that leads into homing (R28, R126, R129). -/
def State.warmup (s : State) : Bool :=
  decide (s.role = .zone ∧ (s.damper.machine = .homing ∨ (s.damper.machine = .pause ∧ s.damper.homingPause = true)))

/-- HOLDOVER: the link state is HOLDOVER (R28, R51). -/
def State.holdoverFlag (s : State) : Bool := decide (s.health.link = .holdover)

/-- TEST: the latched test set is not empty (R28, R181). -/
def State.testFlag (s : State) : Bool := decide (s.dir.tests.size ≠ 0)

/-- The FLAGS the station drives (R28). -/
def State.flagBits (s : State) : BitVec 4 :=
  BitVec.ofNat 4 (weigh s.health.disagree 8 + weigh s.holdoverFlag 4 + weigh s.testFlag 2 + weigh s.warmup 1)

/-- FLAGS.DISAGREE of a view (R28). -/
def View.disagree (v : View) : Bool := v.flags.getLsbD 3

/-- FLAGS.HOLDOVER of a view (R28). -/
def View.holdover (v : View) : Bool := v.flags.getLsbD 2

/-- FLAGS.TEST of a view (R28). -/
def View.test (v : View) : Bool := v.flags.getLsbD 1

/-- FLAGS.WARMUP of a view (R28). -/
def View.warmup (v : View) : Bool := v.flags.getLsbD 0

/-! ### SHARE and SLOW bytes (R26, R32 to R34) -/

/-- The station's SHARE byte (R26). -/
def State.shareByte (s : State) : Byte :=
  match s.role with
  | .zone => BitVec.ofNat 8 s.damper.request
  | .handler => BitVec.ofNat 8 (s.ownFcap / 8)
  | .outdoor => BitVec.ofNat 8 s.outdoor.speed
  | .absent => 0

/-- A temperature reading as a slow item: its code, or 255 while invalid (R71). -/
def tempItem (r : Option Int) : Byte :=
  match r with
  | some t => tempCode t
  | none => 255

/-- A humidity reading as a slow item: its code, or 255 while invalid (R71). -/
def humItem (r : Option Int) : Byte :=
  match r with
  | some h => humCode h
  | none => 255

/-- Slow item 10: link state and standing faults (R34). -/
def State.statusItem (s : State) : Byte :=
  BitVec.ofNat 8
    (linkCode s.health.link + weigh (!s.meas.a.valid) 8 + weigh (!s.meas.b.valid) 16 +
      weigh (decide (s.role = .zone) && s.damper.fault) 32 +
      weigh (decide (s.role = .zone) && !s.damper.homed) 64 +
      weigh (decide (s.role = .outdoor) && s.outdoor.lockout) 128)

/-- A ZONE station's slow items (R32). -/
def State.zoneItem (s : State) (i : Nat) : Byte :=
  match i with
  | 0 => BitVec.ofNat 8 (16 * settingCode s.zone.settings.setting + s.param)
  | 1 | 12 => tempItem s.tempA
  | 2 | 13 => humItem s.roomHumidity
  | 3 => tempCode s.zone.settings.sc
  | 4 => tempCode s.zone.settings.sh
  | 5 => humCode s.zone.settings.hl
  | 6 | 14 => BitVec.ofNat 8 s.zone.d
  | 7 | 15 => BitVec.ofNat 8 (s.damper.position / 4)
  | 8 => BitVec.ofNat 8 s.health.nearEnd
  | 9 => BitVec.ofNat 8 s.health.farEnd
  | 10 => s.statusItem
  | 11 => BitVec.ofNat 8 (callCode s.zone.call)
  | _ => 0

/-- A HANDLER station's slow items (R33). -/
def State.handlerItem (s : State) (i : Nat) : Byte :=
  match i with
  | 0 => BitVec.ofNat 8 s.param
  | 1 | 12 => tempItem s.tempA
  | 2 | 13 => tempItem s.tempB
  | 3 => BitVec.ofNat 8 (s.out.blower.applied / 4)
  | 4 => BitVec.ofNat 8 s.handler.bypass
  | 5 => BitVec.ofNat 8 (weigh s.handler.auxOn 1)
  | 6 | 14 => BitVec.ofNat 8 (if s.handler.holdActive then min 255 (90 - s.handler.holdCount) else 0)
  | 7 | 15 => BitVec.ofNat 8 (weigh s.handler.coilFrost 1 + weigh s.handler.supplyHot 2)
  | 8 => BitVec.ofNat 8 s.health.nearEnd
  | 9 => BitVec.ofNat 8 s.health.farEnd
  | 10 => s.statusItem
  | 11 => BitVec.ofNat 8 s.dir.tests.size
  | _ => 0

/-- An OUTDOOR station's slow items (R33). -/
def State.outdoorItem (s : State) (i : Nat) : Byte :=
  match i with
  | 0 => BitVec.ofNat 8 s.param
  | 1 | 12 => tempItem s.tempA
  | 2 | 13 => tempItem s.tempB
  | 3 => BitVec.ofNat 8 s.outdoor.speed
  | 4 => BitVec.ofNat 8 (defrostCode s.outdoor.defrost)
  | 5 => BitVec.ofNat 8 s.outdoor.trips.length
  | 6 | 14 => BitVec.ofNat 8 (compCode s.outdoor.comp)
  | 7 | 15 => BitVec.ofNat 8 (weigh s.out.valve.on 1)
  | 8 => BitVec.ofNat 8 s.health.nearEnd
  | 9 => BitVec.ofNat 8 s.health.farEnd
  | 10 => s.statusItem
  | 11 => BitVec.ofNat 8 s.dir.tests.size
  | _ => 0

/-- The slow item numbered `i` as it stands, in the station's role (R32, R33, R180). -/
def State.slowItem (s : State) (i : Nat) : Byte :=
  match s.role with
  | .zone => s.zoneItem i
  | .handler => s.handlerItem i
  | .outdoor => s.outdoorItem i
  | .absent => 0

/-! ### Indicators and pins -/

/-- How an indicator line is driven (R170). -/
inductive Indicator where
  | off
  | on
  | blinking
  deriving DecidableEq, Repr

/-- The LINE indicator (R57). -/
def State.lineIndicator (s : State) : Indicator :=
  match s.health.link with
  | .joined => .on
  | .holdover => .blinking
  | .quiet => .off
  | .listen => .off
  | .isolated => .off

/-- The CALL indicator (R92). -/
def State.callIndicator (s : State) : Indicator :=
  if s.role = .zone ∧ s.zone.call ≠ .none then (if s.zone.served then .on else .blinking) else .off

/-- The configuration fault: the strap check failed (R186). -/
def State.configFault (s : State) : Bool := decide (s.rst.state = .failed)

/-- The conditions that hold the FAULT indicator on (R93). -/
def State.standingFault (s : State) : Bool :=
  s.configFault || s.health.addressClash || !s.meas.a.valid || !s.meas.b.valid ||
    (decide (s.role = .zone) && s.damper.fault)

/-- The FAULT indicator, off until the straps are latched (R93, R170). -/
def State.faultIndicator (s : State) : Indicator :=
  match s.rst.state with
  | .asserted => .off
  | .settling => .off
  | .checked => if s.standingFault then .on else if s.testFlag then .blinking else .off
  | .failed => if s.standingFault then .on else if s.testFlag then .blinking else .off

/-- The level of an indicator line: a blinking one follows the blink clock (R170). -/
def State.lit (s : State) (i : Indicator) : Bool :=
  match i with
  | .on => true
  | .off => false
  | .blinking => s.out.blinkLit

/-- The pin of a PWM channel: high for the first `applied` microseconds of each period (R164). -/
def Pwm.pin (c : Pwm) (period : Timer) : Bool := decide (period.us % Config.periodUs < c.applied)

/-- The half of the bridge that is on at the pins: the conducting half for the first 800 µs of each period (R168). -/
def State.bridgePins (s : State) : Option Direction :=
  if s.timers.bridge.us % Config.periodUs < Config.bridgeOnUs then s.out.bridge.conducting else none

/-- The auxiliary heater is energised while its switched output is on and the applied blower duty is 300 permille or
more (R142). -/
def State.heaterEnergised (s : State) : Bool := s.out.heater.on && decide (300 ≤ s.out.blower.applied)

/-- What the station asserts on the wire outside the field window: its sync mark (R4). -/
def State.drivingMark (s : State) : Bool := s.timers.mark.running

end Sys2Proof.Machine
end

