-- ==== Sys2Proof/Machine/Collective.lean ====
section
/-! DEFINITION. Chapter 6: adoption of the wire STATE and the proposal for the next round. -/

namespace Sys2Proof.Machine

/-- The active modes: COOL, DRY and HEAT (R102, R103). -/
def Mode.active : Mode → Bool
  | .off => false
  | .fan => false
  | .dry => true
  | .cool => true
  | .heat => true

/-- The cooling side: COOL and DRY (R102, R150). -/
def Mode.coolingSide : Mode → Bool
  | .off => false
  | .fan => false
  | .dry => true
  | .cool => true
  | .heat => false

/-- The side with the larger peak, then the one with more calls, then COOL (R101, step 4). -/
def chooseSide (v : View) : Mode :=
  if v.peakh.toNat < v.peakc.toNat then .cool
  else if v.peakc.toNat < v.peakh.toNat then .heat
  else if v.nC < v.nH then .heat
  else .cool

/-- Steps 4 and 5 of R101. -/
def chooseMode (v : View) : Mode := if 0 < v.nC + v.nH then chooseSide v else .dry

/-- The wanted mode from the calls (R101). -/
def wantedFromCalls (m : Mode) (v : View) : Mode :=
  if v.nC + v.nH + v.nD = 0 then .off
  else
    match m with
    | .cool => if 0 < v.nC then .cool else chooseMode v
    | .heat => if 0 < v.nH then .heat else chooseMode v
    | .dry => if 0 < v.nC then .cool else if 0 < v.nD then .dry else chooseMode v
    | .off => chooseMode v
    | .fan => chooseMode v

/-- The wanted mode W: from the plant while LOCKOUT or OVERFLOW is set, else from the calls (R100, R101). -/
def wantedMode (m : Mode) (v : View) (f : PlantFilter) : Mode :=
  if f.lockout.value || f.overflow.value then (if 0 < v.nC + v.nH + v.nD then .fan else .off)
  else wantedFromCalls m v

/-- The wanted mode turned into a proposal (R102). -/
def transition (m w : Mode) : Collective :=
  if w = m then ⟨m, 0⟩
  else if (m.coolingSide ∧ w = .heat) ∨ (m = .heat ∧ w.coolingSide) then ⟨.off, 180⟩
  else if w.active then ⟨w, 300⟩
  else ⟨w, 0⟩

/-- The warm-up block: from OFF no active mode is proposed while a damper homes (R103). -/
def warmupBlock (warmup : Bool) (m : Mode) (p : Collective) : Collective :=
  if warmup ∧ m = .off ∧ p.mode.active then .rest else p

/-- The proposal worked out at an accepted round (R97 to R103). -/
def propose (c : Collective) (v : View) (f : PlantFilter) : Collective :=
  if v.holdover then c
  else if 0 < c.hold then ⟨c.mode, c.hold - 1⟩
  else warmupBlock v.warmup c.mode (transition c.mode (wantedMode c.mode v f))

/-- The collective state after an accepted round: the wire STATE, or the one held when its mode code names no mode
(R105, R106). -/
def adopt (c : Collective) (v : View) : Collective := (unpackState v.state).getD c

/-- The collective mode block's work at an accepted round handed on (R97, R105, R106). -/
def CollectiveBlock.round (v : View) (f : PlantFilter) (c : CollectiveBlock) : CollectiveBlock :=
  let next := adopt c.state v
  ⟨next, propose next v f⟩

end Sys2Proof.Machine
end

