-- ==== Sys2Proof/Machine/Handler.lean ====
section
/-! DEFINITION. Chapter 8: the blower target, duty and bypass, the cold-blow hold, the watch filters and the auxiliary
heat machine. -/

namespace Sys2Proof.Machine

/-! ### At an accepted round (R132 to R137) -/

/-- The cold-blow hold's update at an accepted round, with its record (R137). A hold that ends leaves its count at 0, here
as everywhere: the model's choice, since the rules say only that the hold ends (DESIGN CHOICE, notes/assumptions/27). -/
def Handler.roundHold (m : Mode) (f : PlantFilter) (h : Handler) : Handler :=
  let comp := f.compRun.value
  if m = .heat ∧ comp ∧ ¬ h.compRecord then { h with holdActive := true, holdCount := 0, compRecord := comp }
  else if h.holdActive ∧ (m ≠ .heat ∨ ¬ comp) then { h with holdActive := false, holdCount := 0, compRecord := comp }
  else { h with compRecord := comp }

/-- The blower target Fb (R133). -/
def blowerTarget (m : Mode) (f : PlantFilter) (hold : Bool) (rtot fcap fmin : Nat) : Nat :=
  if m = .off ∨ rtot = 0 then 0
  else if f.defrost.value then fmin
  else if f.hpTrip.value ∧ m = .heat then fcap
  else if hold then 0
  else limitTo fmin fcap (min rtot fcap)

/-- The pending blower duty: 1000 × Fb / Fcap rounded to nearest (R134). -/
def blowerDuty (fb fcap : Nat) : Nat := roundNearest (1000 * fb) fcap

/-- The pending bypass position (R136). -/
def bypassPosition (fb rtot fcap : Nat) : Nat :=
  let m := min rtot fcap
  if m < fb then min 100 (roundUp (100 * (fb - m)) (fcap / 2)) else 0

/-- The handler's work at an accepted round, in the order of R132. -/
def Handler.round (m : Mode) (f : PlantFilter) (rtot fcap fmin : Nat) (h : Handler) : Handler :=
  let h1 := h.roundHold m f
  let fb := blowerTarget m f h1.holdActive rtot fcap fmin
  { h1 with fb := fb, pendingDuty := blowerDuty fb fcap, pendingBypass := bypassPosition fb rtot fcap }

/-- The handler station's work at an accepted round handed on to it (R132). -/
def handlerRound (s : State) : State :=
  { s with handler := s.handler.round s.mode s.health.plant s.health.view.rtot s.ownFcap s.ownFmin }

/-! ### At a round start (R134, R136, R144) -/

/-- The blower duty in effect at a round start: the test duty while TEST_BLOWER is latched, else the pending duty
(R134, R144). -/
def dutyInEffect (test : Option Byte) (pending : Nat) : Nat :=
  match test with
  | some a => a.toNat * 4
  | none => pending

/-- The handler writes its duties to its channels at a round start (R134, R136). -/
def handlerRoundStart (s : State) : State :=
  let duty := dutyInEffect s.dir.tests.role s.handler.pendingDuty
  { s with
    handler := { s.handler with duty := duty, bypass := s.handler.pendingBypass }
    out :=
      { s.out with
        blower := s.out.blower.write duty
        bypass := s.out.bypass.write (10 * s.handler.pendingBypass) } }

/-! ### At a second tick (R138 to R141) -/

/-- A flag with a run count: a qualifying tick raises the count, any other returns it to 0, and at `full` the flag
turns over and the count returns to 0 (R139, R140). -/
def watchFlag (flag : Bool) (run full : Nat) (qualifies : Bool) : Bool × Nat :=
  if qualifies then (if full ≤ run + 1 then (!flag, 0) else (flag, run + 1)) else (flag, 0)

/-- The tick qualifies for COIL_FROST to change (R139). -/
def frostQualifies (flag : Bool) (m : Mode) (coil : Option Int) : Bool :=
  if flag then atLeast coil 70 else m.coolingSide && atMost coil 10

/-- The tick qualifies for SUPPLY_HOT to change (R140). -/
def hotQualifies (flag : Bool) (supply : Option Int) : Bool :=
  if flag then atMost supply 500 else atLeast supply 550

/-- The cold-blow hold's second tick (R138). A hold that ends leaves its count at 0 (DESIGN CHOICE,
notes/assumptions/27). -/
def Handler.tickHold (coil : Option Int) (h : Handler) : Handler :=
  if h.holdActive then
    if atLeast coil 280 ∨ 90 ≤ h.holdCount + 1 then { h with holdActive := false, holdCount := 0 }
    else { h with holdCount := h.holdCount + 1 }
  else h

/-- The coil frost filter's second tick (R139). -/
def Handler.tickFrost (m : Mode) (coil : Option Int) (h : Handler) : Handler :=
  let r := watchFlag h.coilFrost h.frostRun 30 (frostQualifies h.coilFrost m coil)
  { h with coilFrost := r.1, frostRun := r.2 }

/-- The supply-hot filter's second tick (R140). -/
def Handler.tickHot (supply : Option Int) (h : Handler) : Handler :=
  let r := watchFlag h.supplyHot h.hotRun 10 (hotQualifies h.supplyHot supply)
  { h with supplyHot := r.1, hotRun := r.2 }

/-- The auxiliary heat machine's second tick (R141). -/
def Handler.tickAux (m : Mode) (f : PlantFilter) (ph : Nat) (h : Handler) : Handler :=
  if h.auxOn then
    if m ≠ .heat ∨ (¬ f.defrost.value ∧ ph < 40) then { h with auxOn := false, auxRun := 0 } else h
  else if m = .heat ∧ f.defrost.value then { h with auxOn := true, auxRun := 0 }
  else if m = .heat ∧ 56 ≤ ph ∧ f.compRun.value then
    if 600 ≤ h.auxRun + 1 then { h with auxOn := true, auxRun := 0 } else { h with auxRun := h.auxRun + 1 }
  else { h with auxRun := 0 }

/-- The handler logic's second tick (R138 to R141). -/
def Handler.tick (m : Mode) (f : PlantFilter) (ph : Nat) (coil supply : Option Int) (h : Handler) : Handler :=
  (((h.tickHold coil).tickFrost m coil).tickHot supply).tickAux m f ph

/-- The station with the heater's switched output asked for the auxiliary machine's state (R141). -/
def requestAux (s : State) : State :=
  let r := requestHeater s.handler.auxOn s.out s.timers
  { s with out := r.1, timers := r.2 }

/-- The handler station's second tick, after the channels are consumed. -/
def handlerTick (s : State) : State :=
  requestAux
    { s with
      handler := s.handler.tick s.mode s.health.plant s.health.view.peakh.toNat s.tempA s.tempB }

/-! ### Safe state (R145) -/

/-- The handler logic in its safe state: Fb and duties 0, bypass open, no hold, auxiliary machine OFF (R145). The count of
the hold that ends is 0 (DESIGN CHOICE, notes/assumptions/27). -/
def Handler.safe (h : Handler) : Handler :=
  { h with
    fb := 0
    pendingDuty := 0
    duty := 0
    pendingBypass := 100
    bypass := 100
    holdActive := false
    holdCount := 0
    compRecord := false
    auxOn := false
    auxRun := 0 }

/-- The handler's part of an entry to ISOLATED (R55, R145). -/
def handlerSafe (s : State) : State :=
  requestAux
    { s with
      handler := s.handler.safe
      out := { s.out with blower := s.out.blower.write 0, bypass := s.out.bypass.write 1000 } }

end Sys2Proof.Machine
end

