-- ==== Sys2Proof/Machine/Measurement.lean ====
section
/-! DEFINITION. Chapter 4: the capture side with the commands CAPTURE_RISING_EDGE, CAPTURE_FALLING_EDGE and
PERIOD_ABANDONED, and the consumption of both channels at a second tick. -/

namespace Sys2Proof.Machine

/-! ### The capture side (R60, R61) -/

/-- A capture channel with its two running counts (R60). -/
structure Capture where
  c : CaptureChannel
  period : Timer
  high : Timer
  deriving DecidableEq, Repr

/-- The capture side of a channel of the station. -/
def State.capture (s : State) (ch : Channel) : Capture :=
  match ch with
  | .a => ⟨s.meas.a, s.timers.periodA, s.timers.highA⟩
  | .b => ⟨s.meas.b, s.timers.periodB, s.timers.highB⟩

/-- The station with the capture side of a channel replaced. -/
def State.withCapture (s : State) (ch : Channel) (x : Capture) : State :=
  match ch with
  | .a => { s with meas := { s.meas with a := x.c }, timers := { s.timers with periodA := x.period, highA := x.high } }
  | .b => { s with meas := { s.meas with b := x.c }, timers := { s.timers with periodB := x.period, highB := x.high } }

/-- A rising edge opens a period with both counts at 0 (R60). -/
def Capture.begin (x : Capture) : Capture := ⟨{ x.c with state := .high }, .started, .started⟩

/-- The channel back in WAIT_EDGE with its counts not running (R60). That they show 0 there is the model's choice: R60 says
only that they do not run, and the next rising edge sets both to 0 (DESIGN CHOICE, notes/assumptions/20). -/
def Capture.await (x : Capture) : Capture := ⟨{ x.c with state := .waitEdge }, .stopped, .stopped⟩

/-- The pair of the period that ends is latched if fresh is clear, and dropped otherwise (R61). -/
def Capture.latch (x : Capture) : Capture :=
  if x.c.fresh then x else { x with c := { x.c with p := x.period.us, h := x.high.us, fresh := true } }

/-- The period count has reached 65535, so the period is abandoned (R60; log 20). -/
def Capture.overdue (x : Capture) : Bool := decide (Config.captureMax ≤ x.period.us)

/-- The open period has a high time of at least one tick and is longer than it, as every period that an edge in LOW ends
(R60). -/
def Capture.complete (x : Capture) : Bool := decide (0 < x.high.us ∧ x.high.us < x.period.us)

/-- A rising edge (R60, R61). In LOW it comes no earlier than one tick after the falling edge. -/
def Capture.rise (x : Capture) : Capture :=
  match x.c.state with
  | .waitEdge => x.begin
  | .low => if x.overdue then x.begin else if x.complete then x.latch.begin else x
  | .high => x
  | .stopped => x

/-- A falling edge (R60). In HIGH it comes no earlier than one tick after the rising edge. -/
def Capture.fall (x : Capture) : Capture :=
  match x.c.state with
  | .high =>
    if x.overdue then x.await
    else if 0 < x.high.us then { x with c := { x.c with state := .low }, high := { x.high with running := false } }
    else x
  | .low => x
  | .waitEdge => x
  | .stopped => x

/-- A period is open (R60). -/
def CaptureState.isOpen : CaptureState → Bool
  | .high => true
  | .low => true
  | .waitEdge => false
  | .stopped => false

/-- CAPTURE_RISING_EDGE (R61), `ticks` capture ticks after the command before it. -/
def execCaptureRisingEdge (ch : Channel) (ticks : Nat) (s : State) : Host.Outcome State Fault Refusal :=
  .next
    (if (s.capture ch).c.state = .stopped then s
    else
      let s1 := elapse ticks s
      s1.withCapture ch (s1.capture ch).rise)

/-- CAPTURE_FALLING_EDGE (R60), `ticks` capture ticks after the command before it. -/
def execCaptureFallingEdge (ch : Channel) (ticks : Nat) (s : State) : Host.Outcome State Fault Refusal :=
  .next
    (if (s.capture ch).c.state = .stopped then s
    else
      let s1 := elapse ticks s
      s1.withCapture ch (s1.capture ch).fall)

/-- PERIOD_ABANDONED: the period count reaches 65535 (R60). -/
def execPeriodAbandoned (ch : Channel) (s : State) : Host.Outcome State Fault Refusal :=
  .next
    (if (s.capture ch).c.state.isOpen then
      let s1 := elapseTo (s.capture ch).period Config.captureMax s
      s1.withCapture ch (s1.capture ch).await
    else s)

/-! ### The second tick (R62 to R69) -/

/-- What the tick takes from a channel: the good sample, or none for a miss (R62, R64 to R66). -/
def CaptureChannel.taken (conv : Nat → Nat → Option Nat) (c : CaptureChannel) : Option Nat :=
  if c.fresh then conv c.p c.h else none

/-- A good sample joins the ring (R67). -/
def pushRing (v : Nat) (ring : List Nat) : List Nat := (if 8 ≤ ring.length then ring.tail else ring) ++ [v]

/-- A good sample (R67). -/
def CaptureChannel.good (v : Nat) (c : CaptureChannel) : CaptureChannel :=
  { c with fresh := false, ring := pushRing v c.ring, misses := 0 }

/-- A miss (R68). -/
def CaptureChannel.miss (c : CaptureChannel) : CaptureChannel :=
  { c with
    fresh := false
    ring := if 3 ≤ c.misses + 1 then [] else c.ring
    misses := min 3 (c.misses + 1) }

/-- A channel is consumed (R62). -/
def CaptureChannel.consume (conv : Nat → Nat → Option Nat) (c : CaptureChannel) : CaptureChannel :=
  match c.taken conv with
  | some v => c.good v
  | none => c.miss

/-- Channel B's conversion, by the role: humidity in a ZONE station, temperature otherwise (R59). -/
def sampleB (r : Role) : Nat → Nat → Option Nat :=
  match r with
  | .zone => humSample
  | .handler => tempSample
  | .outdoor => tempSample
  | .absent => tempSample

/-- Both channels are consumed at the same tick, each on its own state (R62). -/
def consumeChannels (s : State) : State :=
  { s with meas := ⟨s.meas.a.consume tempSample, s.meas.b.consume (sampleB s.role)⟩ }

end Sys2Proof.Machine
end

