-- ==== Sys2Proof/Machine/Outdoor.lean ====
section
/-! DEFINITION. Chapter 9: the capacity target, the compressor machine, valve and fan, defrost, and the trip history. -/

namespace Sys2Proof.Machine

/-! ### The capacity target (R147, R148) -/

/-- The peak of the mode's side (R147). -/
def sidePeak (m : Mode) (v : View) : Nat :=
  match m with
  | .cool => v.peakc.toNat
  | .heat => v.peakh.toNat
  | .off => 0
  | .fan => 0
  | .dry => 0

/-- The capacity target of COOL or HEAT from the requests and the peak (R147). -/
def capacityFrom (rtot fcap peak : Nat) : Nat :=
  let t := limitTo 30 100 (roundUp (100 * min rtot fcap) fcap)
  if t < 70 ∧ 48 ≤ peak then 70 else t

/-- The capacity target at an accepted round (R147). -/
def capacityTarget (m : Mode) (v : View) : Nat :=
  match m with
  | .off => 0
  | .fan => 0
  | .dry => if v.fcap = 0 ∨ v.rtot = 0 then 0 else 40
  | .cool => if v.fcap = 0 ∨ v.rtot = 0 then 0 else capacityFrom v.rtot v.fcap (sidePeak .cool v)
  | .heat => if v.fcap = 0 ∨ v.rtot = 0 then 0 else capacityFrom v.rtot v.fcap (sidePeak .heat v)

/-- Ct at a round start: the test speed while TEST_SPEED is latched, else the pending target (R148, R161). -/
def ctInEffect (test : Option Byte) (pending : Nat) : Nat :=
  match test with
  | some a => a.toNat
  | none => pending

/-- The outdoor station sets Ct at a round start (R148). -/
def outdoorRoundStart (s : State) : State :=
  { s with outdoor := { s.outdoor with ct := ctInEffect s.dir.tests.role s.outdoor.pendingCt } }

/-! ### The plant: the outdoor logic with its outputs and timers -/

/-- The outdoor logic with what it drives: the output stages and the interval timers. -/
structure Plant where
  o : Outdoor
  out : Output
  t : Timers
  deriving DecidableEq, Repr

/-- What the outdoor logic reads: the collective mode, the filtered PLANT copy, the two readings, the parameter strap
and the filtered trip input. -/
structure PlantIn where
  mode : Mode
  f : PlantFilter
  air : Option Int
  coil : Option Int
  param : Nat
  trip : Bool
  deriving DecidableEq, Repr

/-- The plant of a station. -/
def State.plant (s : State) : Plant := ⟨s.outdoor, s.out, s.timers⟩

/-- What the outdoor logic of a station reads. -/
def State.plantIn (s : State) : PlantIn :=
  ⟨s.mode, s.health.plant, s.tempA, s.tempB, s.param, s.out.tripActive⟩

/-- The station with its plant replaced. -/
def State.withPlant (s : State) (p : Plant) : State := { s with outdoor := p.o, out := p.out, timers := p.t }

/-- The fan is wanted on in a running state with the defrost state NORMAL (R155). -/
def Outdoor.fanWanted (o : Outdoor) : Bool := o.comp.isRunning && decide (o.defrost = .normal)

/-- The fan is requested as the machine and defrost states want it (R155). -/
def Plant.requestFan (p : Plant) : Plant :=
  let r := Machine.requestFan p.o.fanWanted p.out p.t
  { p with out := r.1, t := r.2 }

/-- The valve is requested to a position: `true` for cool (R154). -/
def Plant.requestValve (cool : Bool) (p : Plant) : Plant :=
  let r := Machine.requestValve cool p.out p.t
  { p with out := r.1, t := r.2 }

/-- The valve position wanted, if one is (R154). -/
def valveWanted (d : DefrostState) (m : Mode) : Option Bool :=
  match d with
  | .defrost => some true
  | .drip => some false
  | .normal => if m.coolingSide then some true else if m = .heat then some false else none

/-- The valve request of a running tick (R154). -/
def Plant.followValve (m : Mode) (p : Plant) : Plant :=
  match valveWanted p.o.defrost m with
  | some cool => p.requestValve cool
  | none => p

/-! ### Stops (R152, R153) -/

/-- The outdoor logic after a stop: S at 0, the minimum off timer from 0, the run's records cleared, and a defrost
aborted with the run accumulator kept (R153, R157). In NORMAL the phase timer, which R157 stops, shows 0: the model's
choice (DESIGN CHOICE, notes/assumptions/28). -/
def Outdoor.halt (after : CompState) (o : Outdoor) : Outdoor :=
  { o with
    comp := after
    speed := 0
    side := none
    runTimer := 0
    offTimer := 0
    frostStop := 0
    defrost := .normal
    phase := 0 }

/-- A stop of the compressor, normal or forced, into MIN_OFF or TRIPPED: its channel is stopped at once and the fan
requested off (R149, R153, R155, R165). -/
def Plant.stop (after : CompState) (p : Plant) : Plant :=
  ({ p with o := p.o.halt after, out := p.out.stopCompressor } : Plant).requestFan

/-- A forced stop in a running state (R152). -/
def Plant.forcedStop (p : Plant) : Plant := if p.o.comp.isRunning then p.stop .minOff else p

/-! ### Defrost (R156 to R158) -/

/-- The run accumulator and the six conditions of the entry count (R156), with the accumulator `acc` of this tick. -/
def defrostQualifies (i : PlantIn) (speed acc : Nat) : Bool :=
  match i.air, i.coil with
  | some air, some coil =>
    decide (i.mode = .heat ∧ 0 < speed ∧ (i.param + 2) * 600 ≤ acc ∧ coil ≤ -30 ∧ coil ≤ air - 60)
  | _, _ => false

/-- The run accumulator after a tick in NORMAL (R156, log 11). -/
def Outdoor.accumulated (m : Mode) (o : Outdoor) : Nat :=
  if m = .heat ∧ 0 < o.speed then min 65535 (o.accumulator + 1) else o.accumulator

/-- On entering DEFROST the phase timer starts from 0 and the entry count is 0 (R156, R157). -/
def Outdoor.enterDefrost (o : Outdoor) : Outdoor := { o with defrost := .defrost, entryCount := 0, phase := 0 }

/-- The defrost machine's second tick (R156, R157). At the end of DRIP the phase timer is set to 0, where R157 says
nothing of it: the model's choice (DESIGN CHOICE, notes/assumptions/28). -/
def Outdoor.tickDefrost (i : PlantIn) (o : Outdoor) : Outdoor :=
  match o.defrost with
  | .normal =>
    let o1 := { o with accumulator := o.accumulated i.mode }
    if defrostQualifies i o.speed o1.accumulator then
      if 30 ≤ o.entryCount + 1 then o1.enterDefrost else { o1 with entryCount := o.entryCount + 1 }
    else { o1 with entryCount := 0 }
  | .defrost =>
    if atLeast i.coil 120 ∨ 600 ≤ o.phase + 1 then
      { o with defrost := .drip, accumulator := 0, phase := 0 }
    else { o with phase := o.phase + 1 }
  | .drip =>
    if 30 ≤ o.phase + 1 then { o with defrost := .normal, phase := 0 } else { o with phase := o.phase + 1 }

/-- The defrost machine's second tick with its fan request: a move to another defrost state requests the fan as the states
then stand, before the compressor machine acts (R151, R155, R157). So at a tick that ends DRIP and stops the machine the fan
is requested on, and then off. -/
def Plant.tickDefrost (i : PlantIn) (p : Plant) : Plant :=
  let p1 : Plant := { p with o := p.o.tickDefrost i }
  if p1.o.defrost = p.o.defrost then p1 else p1.requestFan

/-- The conditions of FORCE_DEFROST (R158). -/
def forceDefrostOk (m : Mode) (o : Outdoor) : Bool :=
  decide (m = .heat ∧ 0 < o.speed ∧ o.defrost = .normal)

/-! ### The compressor machine's second tick (R150, R151) -/

/-- The start conditions (R150). -/
def Outdoor.mayStart (i : PlantIn) (o : Outdoor) : Bool :=
  decide (0 < o.ct) && i.mode.active && !i.trip && !o.lockout &&
    (decide (i.mode = .heat) || (i.f.fanRun.value && !i.f.overflow.value))

/-- The side of a run that starts in mode `m` (R150). -/
def sideOf (m : Mode) : Side := if m.coolingSide then .cooling else .heating

/-- The start: 30 %, STARTING, the run timer from 0 and the side recorded (R150). -/
def Outdoor.start (m : Mode) (o : Outdoor) : Outdoor :=
  { o with comp := .starting, speed := 30, runTimer := 0, side := some (sideOf m) }

/-- The cap on the speed (R151). -/
def speedCap (m : Mode) (f : PlantFilter) : Nat :=
  if f.coilFrost.value then 30 else if f.supplyHot.value ∧ m = .heat then 50 else 100

/-- The ramp target (R151). -/
def rampTarget (i : PlantIn) (o : Outdoor) : Nat :=
  match o.defrost with
  | .defrost => 60
  | .drip => 30
  | .normal => if 0 < o.ct then min o.ct (speedCap i.mode i.f) else 30

/-- One step of the speed toward the ramp target (R151). -/
def rampStep (target speed : Nat) : Nat :=
  if speed < target then min (speed + 4) target else if target < speed then max (speed - 8) target else speed

/-- The ramp step, the run timer and the frost stop count of a tick in a running state (R151, R152). -/
def Outdoor.ramp (i : PlantIn) (o : Outdoor) : Outdoor :=
  { o with
    speed := rampStep (rampTarget i o) o.speed
    runTimer := min 120 (o.runTimer + 1)
    frostStop := if i.f.coilFrost.value then min 300 (o.frostStop + 1) else 0 }

/-- What the machine does at a running tick after the ramp: the state it moves to, `minOff` for a stop (R151, R152).
`target` is the tick's ramp target. -/
def Outdoor.moveAfterRamp (target : Nat) (o : Outdoor) : CompState :=
  if 300 ≤ o.frostStop then .minOff
  else if o.comp = .starting ∧ o.speed = target then .running
  else if (o.comp = .starting ∨ o.comp = .running) ∧ o.ct = 0 ∧ o.defrost = .normal then
    if 120 ≤ o.runTimer then .minOff else .stoppingMinRun
  else if o.comp = .stoppingMinRun ∧ 0 < o.ct then .running
  else if o.comp = .stoppingMinRun ∧ o.defrost = .normal ∧ 120 ≤ o.runTimer then .minOff
  else o.comp

/-- A tick in a running state: the ramp, the valve request and the write of the duty, then the move (R151 to R155). The
valve is requested also at the tick at which the machine stops: the model's choice (DESIGN CHOICE,
notes/assumptions/22). -/
def Plant.runTick (i : PlantIn) (p : Plant) : Plant :=
  let o1 := p.o.ramp i
  let p1 : Plant :=
    ({ p with o := o1, out := p.out.writeCompressor (10 * o1.speed) } : Plant).followValve i.mode
  let next := o1.moveAfterRamp (rampTarget i p.o)
  if next.isRunning then ({ p1 with o := { o1 with comp := next } } : Plant).requestFan else p1.stop .minOff

/-- The start of the compressor clears the trip hold mark (R150, R166). -/
def Plant.start (i : PlantIn) (p : Plant) : Plant :=
  { p with o := p.o.start i.mode, out := { p.out with tripHold := false } }

/-- The compressor machine's second tick (R150, R151, R153). -/
def Plant.tickCompressor (i : PlantIn) (p : Plant) : Plant :=
  match p.o.comp with
  | .stopped => if p.o.mayStart i then (p.start i).runTick i else p
  | .minOff =>
    { p with
      o :=
        { p.o with
          offTimer := min 180 (p.o.offTimer + 1)
          comp := if 180 ≤ p.o.offTimer + 1 then .stopped else .minOff } }
  | .tripped => { p with o := { p.o with offTimer := min 180 (p.o.offTimer + 1) } }
  | .starting => p.runTick i
  | .running => p.runTick i
  | .stoppingMinRun => p.runTick i

/-! ### The trip history (R159) -/

/-- The history one second later: a trip whose age reaches 3600 is removed (R159). -/
def ageTrips (trips : List Nat) : List Nat := (trips.map (· + 1)).filter (· < 3600)

/-- The history with a new trip: of three trips the oldest goes first (R159). -/
def addTrip (trips : List Nat) : List Nat := (if 3 ≤ trips.length then trips.tail else trips) ++ [0]

/-- A trip joins the history and may set LOCKOUT (R159). -/
def Outdoor.recordTrip (o : Outdoor) : Outdoor :=
  { o with
    trips := addTrip o.trips
    lockout := o.lockout || decide (3 ≤ (addTrip o.trips).length) }

/-- The trip reaches the compressor machine: a forced stop into TRIPPED, or TRIPPED with the minimum off timer kept
(R152, R153). -/
def Plant.tripMachine (p : Plant) : Plant :=
  if p.o.comp.isRunning then p.stop .tripped else { p with o := { p.o with comp := .tripped } }

/-- The filtered trip input becomes active: the channel is stopped and held, the machine trips, the trip is recorded
(R159, R166). -/
def Plant.trip (p : Plant) : Plant :=
  let p1 : Plant := { p with out := { p.out.stopCompressor with tripHold := true } }
  let p2 := p1.tripMachine
  { p2 with o := p2.o.recordTrip }

/-- The filtered trip input becomes inactive: TRIPPED is left by the minimum off timer (R153). -/
def Plant.untrip (p : Plant) : Plant :=
  if p.o.comp = .tripped then
    { p with o := { p.o with comp := if p.o.offTimer < 180 then .minOff else .stopped } }
  else p

/-! ### The outdoor station's part of the larger steps -/

/-- The outdoor station's second tick, after the channels are consumed: the trip ages, then the defrost machine, then
the compressor machine, each with its own fan request (R151, R155, R156, R159). -/
def outdoorTick (s : State) : State :=
  let p : Plant := { s.plant with o := { s.outdoor with trips := ageTrips s.outdoor.trips } }
  s.withPlant ((p.tickDefrost s.plantIn).tickCompressor s.plantIn).requestFan

/-- An accepted round forces a stop on OFF or FAN, on a mode of the other side, and on OVERFLOW in COOL or DRY
(R152). -/
def roundForcesStop (m : Mode) (f : PlantFilter) (side : Option Side) : Bool :=
  !m.active || decide (m = .heat ∧ side = some .cooling) || (m.coolingSide && decide (side = some .heating)) ||
    (m.coolingSide && f.overflow.value)

/-- A defrost is aborted by an adopted mode other than HEAT (R157). The stopped phase timer shows 0: the model's choice
(DESIGN CHOICE, notes/assumptions/28). -/
def Outdoor.abortDefrost (m : Mode) (o : Outdoor) : Outdoor :=
  if m ≠ .heat ∧ o.defrost ≠ .normal then { o with defrost := .normal, phase := 0 } else o

/-- The outdoor station's work at an accepted round handed on to it: the pending target, the forced stops and the
abort of a defrost (R147, R152, R157). -/
def outdoorRound (s : State) : State :=
  let o1 := { s.outdoor with pendingCt := capacityTarget s.mode s.health.view }
  let p1 : Plant := { s.plant with o := o1 }
  let p2 := if roundForcesStop s.mode s.health.plant s.outdoor.side then p1.forcedStop else p1
  let p3 : Plant := { p2 with o := p2.o.abortDefrost s.mode }
  s.withPlant p3.requestFan

/-- The outdoor station's part of an entry to ISOLATED (R55, R162). -/
def outdoorSafe (s : State) : State :=
  let p1 : Plant := { s.plant with o := { s.outdoor with pendingCt := 0, ct := 0 } }
  let p2 := p1.forcedStop
  let p3 : Plant := { p2 with o := { p2.o with defrost := .normal, phase := 0 } }
  s.withPlant p3.requestFan

end Sys2Proof.Machine
end

