-- ==== Sys2Proof/Machine/Damper.lean ====
section
/-! DEFINITION. Chapter 7: request, grant, position and target, and the damper machine with homing, stalls and faults;
the commands DAMPER_PULSE, STALL, PAUSE_END, RETRY_END and HOMING_TIMEOUT. -/

namespace Sys2Proof.Machine

/-! ### Request, grant and position (R114 to R118) -/

/-- The request factor k of the collective mode (R114). -/
def requestFactor (m : Mode) : Nat :=
  match m with
  | .dry => 5
  | .fan => 8
  | .cool => 8
  | .heat => 8
  | .off => 0

/-- The request R: D × Qz × k / 504 rounded to nearest for a call that matches the mode, 0 otherwise (R114). -/
def requestOf (call : Call) (m : Mode) (d qz : Nat) : Nat :=
  if callMatches call m then (d * qz * requestFactor m + 252) / 504 else 0

/-- The grant G from the request Rv the view carried (R117). -/
def grantOf (rv rtot fcap : Nat) : Nat :=
  if fcap = 0 then 0 else if rtot ≤ fcap then rv else rv * fcap / rtot

/-- The damper position p in percent (R118). -/
def positionOf (m : Mode) (fcap r g qz : Nat) : Nat :=
  if m = .off ∨ fcap = 0 then 100
  else if r = 0 then 0
  else limitTo 15 100 (roundUp (100 * g) qz)

/-! ### The damper machine, its timers and its bridge -/

/-- The damper machine with what it drives: its timers and the H-bridge stage (R120). -/
structure Motor where
  d : Damper
  t : Timers
  b : Bridge
  deriving DecidableEq, Repr

/-- The damper machine of a station. -/
def State.motor (s : State) : Motor := ⟨s.damper, s.timers, s.out.bridge⟩

/-- The station with its damper machine, timers and bridge replaced. -/
def State.withMotor (s : State) (m : Motor) : State :=
  { s with damper := m.d, timers := m.t, out := { s.out with bridge := m.b } }

/-- The drive asked of the bridge changes (R120, R168). -/
def Motor.ask (drive : Option Direction) (m : Motor) : Motor :=
  let b := m.b.ask drive
  { m with b := b, t := { m.t with bridgeDead := deadAfter m.b b m.t.bridgeDead } }

/-- The motor stops: the stall timer stops and the pause is measured from here (R120, R122, R123). That the stopped stall
timer shows 0 is the model's choice (DESIGN CHOICE, notes/assumptions/28). -/
def Motor.stop (m : Motor) : Motor :=
  { m.ask none with t := { (m.ask none).t with stall := .stopped, motorRest := .started } }

/-- A drive starts in direction `dir` and the machine enters `st` (R120, R122, R123). While the motor is driven, the record
of when it last stopped is stopped at 0: the model's choice, since R120 is silent there (DESIGN CHOICE,
notes/assumptions/28). -/
def Motor.drive (dir : Direction) (st : DamperState) (m : Motor) : Motor :=
  { m.ask (some dir) with
    d := { m.d with lastDrive := dir, machine := st, homingPause := false }
    t := { (m.ask (some dir)).t with stall := .started, motorRest := .stopped } }

/-- The machine state of a drive toward the target in direction `dir` (R122). -/
def travelState : Direction → DamperState
  | .opening => .opening
  | .closing => .closing

/-- The motor has been stopped for 200 ms or more (R122). -/
def Motor.rested (m : Motor) : Bool := decide (Config.pauseUs ≤ m.t.motorRest.us)

/-- A drive toward the target is to start in direction `dir`: at once, or after the reversal pause (R122). -/
def Motor.startDrive (dir : Direction) (m : Motor) : Motor :=
  if dir = m.d.lastDrive ∨ m.rested then m.drive dir (travelState dir)
  else { m with d := { m.d with machine := .pause, homingPause := false } }

/-- The machine enters HOLD; the stall count returns to 0 (R121). -/
def Motor.enterHold (m : Motor) : Motor :=
  { m with d := { m.d with machine := .hold, homingPause := false, stalls := 0 } }

/-- d of R121: the target in effect less the position. -/
def Damper.gap (d : Damper) : Int := (d.target : Int) - d.position

/-- The position is within 2 pulses of the target (R120). -/
def Damper.atTarget (d : Damper) : Bool := decide (-2 ≤ d.gap ∧ d.gap ≤ 2)

/-- The direction in which the target lies. -/
def Damper.toward (d : Damper) : Direction := if 0 < d.gap then .opening else .closing

/-- The comparison as from HOLD (R121). -/
def Motor.compareFromHold (m : Motor) : Motor :=
  if m.d.atTarget then m.enterHold else m.startDrive m.d.toward

/-- The comparison at a change of the position or of the target, by state (R121, R122). -/
def Motor.compare (m : Motor) : Motor :=
  match m.d.machine with
  | .hold => m.compareFromHold
  | .opening =>
    if m.d.atTarget then m.stop.enterHold
    else if m.d.toward = .opening then m
    else m.stop.startDrive .closing
  | .closing =>
    if m.d.atTarget then m.stop.enterHold
    else if m.d.toward = .closing then m
    else m.stop.startDrive .opening
  | .pause =>
    if m.d.homingPause then m
    else if m.d.atTarget then m.enterHold
    else if m.d.toward = m.d.lastDrive then m.drive m.d.lastDrive (travelState m.d.lastDrive)
    else m
  | .parked => m
  | .homing => m
  | .retry => m
  | .fault => m

/-- The target in effect becomes `n`; a change reaches the machine at once (R119). -/
def Motor.setTarget (n : Nat) (m : Motor) : Motor :=
  if m.d.target = n then m else { m with d := { m.d with target := n } }.compare

/-- The machine drives the motor in these states (R123). -/
def DamperState.driving : DamperState → Bool
  | .homing => true
  | .opening => true
  | .closing => true
  | .parked => false
  | .hold => false
  | .pause => false
  | .retry => false
  | .fault => false

/-- The position counter after one pulse in the direction of the last drive (R120). -/
def countPulse (dir : Direction) (n : Nat) : Nat :=
  match dir with
  | .opening => min 400 (n + 1)
  | .closing => n - 1

/-- A feedback pulse: counted from the first homing on, and compared (R120, R121, R123). -/
def Motor.pulse (m : Motor) : Motor :=
  if m.d.machine = .parked then m
  else
    { m with
      d := { m.d with position := countPulse m.d.lastDrive m.d.position }
      t := { m.t with stall := if m.d.machine.driving then .started else m.t.stall } }.compare

/-- The stall count's step: RETRY at 1 or 2, FAULT at 3 (R125). The motor has been stopped. -/
def Motor.countStall (m : Motor) : Motor :=
  if m.d.stalls + 1 < 3 then
    { m with
      d := { m.d with stalls := m.d.stalls + 1, machine := .retry }
      t := { m.t with retry := .started } }
  else { m with d := { m.d with stalls := 3, machine := .fault, fault := true } }

/-- A re-zero (R124). -/
def Motor.rezero (m : Motor) : Motor :=
  { m with d := { m.d with position := 0, stalls := 0 } }.compareFromHold

/-- Homing completes (R126). That the stopped homing timer shows 0 is the model's choice (DESIGN CHOICE,
notes/assumptions/28). -/
def Motor.completeHoming (m : Motor) : Motor :=
  { m with
    d := { m.d with position := 0, homed := true, stalls := 0 }
    t := { m.t with homing := .stopped } }.compareFromHold

/-- The stall timer reaches 500 ms: the motor stops and the stall is handled by state (R123). -/
def Motor.stalled (m : Motor) : Motor :=
  match m.d.machine with
  | .homing => m.stop.completeHoming
  | .closing => if m.d.position ≤ 40 then m.stop.rezero else m.stop.countStall
  | .opening => m.stop.countStall
  | .parked => m
  | .hold => m
  | .pause => m
  | .retry => m
  | .fault => m

/-- Homing starts: the mark, the stall count, the homing timer and the closing drive (R126). -/
def Motor.startHoming (m : Motor) : Motor :=
  let m1 : Motor :=
    { m with d := { m.d with homed := false, stalls := 0 }, t := { m.t with homing := .started } }
  if m1.d.lastDrive = .closing ∨ m1.rested then m1.drive .closing .homing
  else { m1 with d := { m1.d with machine := .pause, homingPause := true } }

/-- The reversal pause ends: into homing, or the direction taken afresh (R122, R126). -/
def Motor.pauseEnd (m : Motor) : Motor :=
  if m.d.homingPause then m.drive .closing .homing else m.compareFromHold

/-- The retry wait ends (R125). The retry timer, which R125 leaves at its 2 s, is stopped at 0: the model's choice (DESIGN
CHOICE, notes/assumptions/28). -/
def Motor.retryEnd (m : Motor) : Motor :=
  { m with t := { m.t with retry := .stopped } }.compareFromHold

/-- Homing has failed: the machine enters FAULT with the motor stopped (R127). The homing timer, which R127 leaves at its
30 s, is stopped at 0: the model's choice (DESIGN CHOICE, notes/assumptions/28). -/
def Motor.homingFailed (m : Motor) : Motor :=
  let m1 := if m.d.machine.driving then m.stop else m
  { m1 with
    d := { m1.d with machine := .fault, homingPause := false, fault := true }
    t := { m1.t with homing := .stopped } }

/-- The machine is in HOMING, or in the PAUSE that leads into it (R126, R127). -/
def Damper.seeking (d : Damper) : Bool :=
  decide (d.machine = .homing ∨ (d.machine = .pause ∧ d.homingPause = true))

/-! ### The commands -/

/-- DAMPER_PULSE (R120). -/
def execDamperPulse (s : State) : Host.Outcome State Fault Refusal :=
  .next (if s.role = .zone then s.withMotor s.motor.pulse else s)

/-- STALL: the stall timer reaches 500 ms while the machine drives (R123). -/
def execStall (s : State) : Host.Outcome State Fault Refusal :=
  .next
    (if s.damper.machine.driving then
      let s1 := elapseTo s.timers.stall Config.stallUs s
      s1.withMotor s1.motor.stalled
    else s)

/-- PAUSE_END: 200 ms have passed since the motor stopped (R122). -/
def execPauseEnd (s : State) : Host.Outcome State Fault Refusal :=
  .next
    (if s.damper.machine = .pause then
      let s1 := elapseTo s.timers.motorRest Config.pauseUs s
      s1.withMotor s1.motor.pauseEnd
    else s)

/-- RETRY_END: the retry timer reaches 2 s (R125). -/
def execRetryEnd (s : State) : Host.Outcome State Fault Refusal :=
  .next
    (if s.damper.machine = .retry then
      let s1 := elapseTo s.timers.retry Config.retryUs s
      s1.withMotor s1.motor.retryEnd
    else s)

/-- HOMING_TIMEOUT: the homing timer reaches 30 s (R127). -/
def execHomingTimeout (s : State) : Host.Outcome State Fault Refusal :=
  .next
    (if s.damper.seeking then
      let s1 := elapseTo s.timers.homing Config.homingUs s
      s1.withMotor s1.motor.homingFailed
    else s)

end Sys2Proof.Machine
end

