-- ==== Sys2Proof/Machine/Zone.lean ====
section
/-! DEFINITION. Chapter 5: the call machine, service, the integral accumulator and the demand, and the keys with the
commands KEY_SAMPLE, KEY_PRESS, KEY_RELEASE, MODE_PRESS_RECOGNITION, MODE_SHORT_PRESS and MODE_LONG_PRESS. -/

namespace Sys2Proof.Machine

/-! ### Demand (R87 to R89) -/

/-- The error E of a COOL or HEAT call (R87); 0 for the calls that have none. -/
def callError (call : Call) (z : Settings) (tm : Int) : Int :=
  match call with
  | .cool => tm - z.sc
  | .heat => z.sh - tm
  | .dry => 0
  | .none => 0

/-- The demand of a COOL or HEAT call: 2 × (E + 5) + floor(A / 16), limited to 1..63 (R88). -/
def errorDemand (e : Int) (a : Nat) : Nat := (limitInt 1 63 (2 * (e + 5) + (a / 16 : Nat))).toNat

/-- The demand of a DRY call: (RHm − Hl) / 5 rounded down, limited to 4..32 (R89). -/
def dryDemand (rh hl : Int) : Nat := (limitInt 4 32 ((rh - hl) / 5)).toNat

/-- A after a served round: A + (E limited to −20..20), limited to 0..1008 (R87). -/
def integrate (a : Nat) (e : Int) : Nat := (limitInt 0 1008 ((a : Int) + limitInt (-20) 20 e)).toNat

/-! ### The call machine (R83 to R85) -/

/-- DRY may begin: humidity valid, RHm ≥ Hl + 50 and Tm ≥ Sh + 10 (R84). -/
def dryWanted (z : Settings) (tm : Int) (rh : Option Int) : Bool :=
  match rh with
  | some h => decide (z.hl + 50 ≤ h ∧ z.sh + 10 ≤ tm)
  | none => false

/-- DRY ends by humidity: RHm ≤ Hl, or humidity invalid (R84). -/
def dryOver (z : Settings) (rh : Option Int) : Bool :=
  match rh with
  | some h => decide (h ≤ z.hl)
  | none => true

/-- The call the machine moves to, or the call it is in, when no blocking condition holds (R84). -/
def nextCall (call : Call) (z : Settings) (tm : Int) (rh : Option Int) : Call :=
  match call with
  | .none =>
    if z.setting.coolAllowed ∧ z.sc + 5 ≤ tm then .cool
    else if z.setting.heatAllowed ∧ tm ≤ z.sh - 5 then .heat
    else if z.setting.coolAllowed ∧ dryWanted z tm rh then .dry
    else .none
  | .cool => if tm ≤ z.sc - 5 ∨ ¬ z.setting.coolAllowed then .none else .cool
  | .heat => if z.sh + 5 ≤ tm ∨ ¬ z.setting.heatAllowed then .none else .heat
  | .dry =>
    if z.setting.coolAllowed ∧ z.sc + 5 ≤ tm then .cool
    else if dryOver z rh ∨ tm < z.sh + 5 ∨ ¬ z.setting.coolAllowed then .none
    else .dry

/-- A move of the call machine sets A, D and the served mark (R85). -/
def Zone.moveTo (c : Call) (tm rh : Option Int) (z : Zone) : Zone :=
  match c with
  | .none => { z with call := .none, d := 0, served := false }
  | .cool =>
    { z with call := .cool, a := 0, d := errorDemand (callError .cool z.settings (tm.getD 0)) 0, served := false }
  | .heat =>
    { z with call := .heat, a := 0, d := errorDemand (callError .heat z.settings (tm.getD 0)) 0, served := false }
  | .dry => { z with call := .dry, d := dryDemand (rh.getD 0) z.settings.hl, served := false }

/-- The call after a second tick: NONE under a blocking condition, else by the table (R83, R84). -/
def Zone.callAfterTick (blocked : Bool) (tm rh : Option Int) (z : Zone) : Call :=
  match tm with
  | some t => if blocked then .none else nextCall z.call z.settings t rh
  | none => .none

/-- The call machine's second tick; `blocked` is a damper fault or homing not complete (R83 to R85). -/
def Zone.tick (blocked : Bool) (tm rh : Option Int) (z : Zone) : Zone :=
  if z.callAfterTick blocked tm rh = z.call then z else z.moveTo (z.callAfterTick blocked tm rh) tm rh

/-! ### The zone at an accepted round (R86 to R89, R114 to R119) -/

/-- The plant conditions of service (R86). -/
def plantServes (m : Mode) (v : View) (f : PlantFilter) : Bool :=
  f.fanRun.value && !v.test &&
    (decide (m = .fan) || (f.compRun.value && !f.defrost.value))

/-- The zone's call is served (R86). -/
def servedAt (call : Call) (m : Mode) (v : View) (f : PlantFilter) : Bool := callMatches call m && plantServes m v f

/-- A after the round: updated while the call is COOL or HEAT, served, and Tm valid (R87). -/
def Zone.accumulated (served : Bool) (z : Settings) (tm : Option Int) (x : Zone) : Nat :=
  match x.call, tm with
  | .cool, some t => if served then integrate x.a (callError .cool z t) else x.a
  | .heat, some t => if served then integrate x.a (callError .heat z t) else x.a
  | _, _ => x.a

/-- D after the round, from the A it has left (R87 to R89). -/
def Zone.demanded (a : Nat) (z : Settings) (tm rh : Option Int) (x : Zone) : Nat :=
  match x.call with
  | .cool =>
    match tm with
    | some t => errorDemand (callError .cool z t) a
    | none => x.d
  | .heat =>
    match tm with
    | some t => errorDemand (callError .heat z t) a
    | none => x.d
  | .dry =>
    match rh with
    | some h => dryDemand h z.hl
    | none => x.d
  | .none => 0

/-- Service, accumulator and demand at an accepted round, with the settings as the directive unit found them (R86 to
R89, R177). -/
def Zone.round (z : Settings) (m : Mode) (v : View) (f : PlantFilter) (tm rh : Option Int) (x : Zone) : Zone :=
  let served := servedAt x.call m v f
  let a := x.accumulated served z tm
  { x with served := served, a := a, d := x.demanded a z tm rh }

/-- Request, grant, position and pending target at an accepted round, after the demand `d` (R114 to R119). `slot` is
the zone's own SHARE byte in the view. -/
def Damper.round (call : Call) (m : Mode) (d qz slot rtot fcap : Nat) (x : Damper) : Damper :=
  let r := requestOf call m d qz
  let g := grantOf slot rtot fcap
  let p := positionOf m fcap r g qz
  { x with request := r, grant := g, percent := p, pending := p * 4 }

/-- The zone station's work at an accepted round handed on to it. -/
def zoneRound (z : Settings) (s : State) : State :=
  let zone := s.zone.round z s.mode s.health.view s.health.plant s.tempA s.roomHumidity
  { s with
    zone := zone
    damper :=
      s.damper.round zone.call s.mode zone.d s.qz (slotByte s.health.view.share s.rst.address.toNat).toNat
        s.health.view.rtot s.health.view.fcap }

/-- The zone's part of an entry to ISOLATED: request and grant 0, the damper at rest at once (R55, R115, R117,
R119). -/
def zoneSafe (s : State) : State :=
  let m := ({ s.motor with d := { s.damper with request := 0, grant := 0, percent := 100, pending := 400 } } :
    Motor).setTarget 400
  s.withMotor m

/-! ### Keys (R78 to R82) -/

/-- What a sample recognises at a key (R78). -/
inductive Recognition where
  | nothing
  | press
  | release
  deriving DecidableEq, Repr

/-- A key's state after a recognised level (R78). -/
def keyAfter (level : Bool) : KeyState → KeyState
  | .released => if level then .pressed else .released
  | .pressed => if level then .pressed else .released
  | .blocked => if level then .blocked else .released

/-- What a recognised level means in a key state (R78). -/
def recognise (level : Bool) : KeyState → Recognition
  | .released => if level then .press else .nothing
  | .pressed => if level then .nothing else .release
  | .blocked => .nothing

/-- The debouncer takes one sample: the first two set the state, later ones are recognised when two in a row agree
(R78). -/
def KeyBlock.sample (level : Bool) (k : KeyBlock) : KeyBlock :=
  match k.samples with
  | [] => ⟨.blocked, [level]⟩
  | [x] => ⟨if level || x then .blocked else .released, [level, x]⟩
  | x :: _ :: _ => ⟨if level = x then keyAfter level k.state else k.state, [level, x]⟩

/-- What the sample recognises at the key (R78). -/
def KeyBlock.recognition (level : Bool) (k : KeyBlock) : Recognition :=
  match k.samples with
  | [] => .nothing
  | [_] => .nothing
  | x :: _ :: _ => if level = x then recognise level k.state else .nothing

/-- The action of a press of Up (R79). -/
def Settings.pressUp (z : Settings) : Settings :=
  match z.setting with
  | .auto => z.moveUp
  | .coolOnly => z.setSc (z.sc + 5)
  | .heatOnly => z.setSh (z.sh + 5)
  | .off => z

/-- The action of a press of Down (R79). -/
def Settings.pressDown (z : Settings) : Settings :=
  match z.setting with
  | .auto => z.moveDown
  | .coolOnly => z.setSc (z.sc - 5)
  | .heatOnly => z.setSh (z.sh - 5)
  | .off => z

/-- The next zone setting of the Mode key's cycle (R80). -/
def ZoneSetting.next : ZoneSetting → ZoneSetting
  | .auto => .coolOnly
  | .coolOnly => .heatOnly
  | .heatOnly => .off
  | .off => .auto

/-- The chord timer has reached its 2.0 s: the chord reset is due, and no key stops it any more (R82). -/
def chordDue (t : Timer) : Bool := t.running && decide (Config.chordUs ≤ t.us)

/-- The chord timer after a recognition at Up or Down: it starts when both have become PRESSED, and a release before 2.0 s
stops it (R82). One that has reached 2.0 s stays for its CHORD_RESET (notes/assumptions/2). -/
def chordAfter (r : Recognition) (up down : KeyBlock) (t : Timer) : Timer :=
  match r with
  | .press => if up.state = .pressed ∧ down.state = .pressed ∧ chordDue t = false then .started else t
  | .release => if chordDue t then t else .stopped
  | .nothing => t

/-- One sample at the Up key, with its action from the entry to LISTEN on (R78, R79, R82). -/
def sampleUp (level : Bool) (s : State) : State :=
  let r := s.zone.up.recognition level
  let up := s.zone.up.sample level
  { s with
    zone :=
      { s.zone with
        up := up
        settings := if r = .press ∧ s.receives then s.zone.settings.pressUp else s.zone.settings }
    timers := { s.timers with chord := chordAfter r up s.zone.down s.timers.chord } }

/-- One sample at the Down key (R78, R79, R82). -/
def sampleDown (level : Bool) (s : State) : State :=
  let r := s.zone.down.recognition level
  let down := s.zone.down.sample level
  { s with
    zone :=
      { s.zone with
        down := down
        settings := if r = .press ∧ s.receives then s.zone.settings.pressDown else s.zone.settings }
    timers := { s.timers with chord := chordAfter r s.zone.up down s.timers.chord } }

/-- The Mode hold timer has passed its 3.0 s: the press is a long press, and no release ends it as a short one. At 3.0 s
itself the release and the expiry fall together, and the first command decides (R80). -/
def longPressDue (t : Timer) : Bool := t.running && decide (Config.longPressUs < t.us)

/-- The Mode hold timer after a recognition at Mode; `acts` from the entry to LISTEN on (R78, R80). One that has passed
3.0 s stays for its MODE_LONG_PRESS (notes/assumptions/2). A release stops it at 0, where R80 says only that it is stopped:
the model's choice (DESIGN CHOICE, notes/assumptions/28). -/
def modeHoldAfter (r : Recognition) (acts : Bool) (t : Timer) : Timer :=
  match r with
  | .press => if acts && !longPressDue t then .started else t
  | .release => if longPressDue t then t else .stopped
  | .nothing => t

/-- A recognition at Mode is a short press: a release while the hold timer runs and has not passed 3.0 s (R80). -/
def isShortPress (r : Recognition) (t : Timer) : Bool := decide (r = .release) && t.running && !longPressDue t

/-- One sample at the Mode key: a press starts the hold timer, a release before its 3.0 s is a short press (R78,
R80). -/
def sampleMode (level : Bool) (s : State) : State :=
  let r := s.zone.mode.recognition level
  { s with
    zone :=
      { s.zone with
        mode := s.zone.mode.sample level
        settings :=
          if isShortPress r s.timers.modeHold then s.zone.settings.setSetting s.zone.settings.setting.next
          else s.zone.settings }
    timers := { s.timers with modeHold := modeHoldAfter r s.receives s.timers.modeHold } }

/-- The moment of the next key sample: the sampling clock reaches 16 ms and starts again (R78). -/
def toKeySample (s : State) : State :=
  let s1 := elapseTo s.timers.keyClock Config.keySampleUs s
  { s1 with timers := { s1.timers with keyClock := .started } }

/-- One sample of all three keys, 16 ms after the one before (R78). -/
def sampleKeys (x : KeySample) (s : State) : State :=
  let s1 := toKeySample s
  sampleMode x.mode
    (if x.downFirst then sampleUp x.up (sampleDown x.down s1) else sampleDown x.down (sampleUp x.up s1))

/-- Key sampling has begun: the straps are latched with a ZONE address (R78, R186). -/
def State.sampling (s : State) : Bool := s.timers.keyClock.running

/-- What a sample recognises at one of the keys. -/
def State.recognitionAt (s : State) (k : Key) (x : KeySample) : Recognition :=
  match k with
  | .up => s.zone.up.recognition x.up
  | .down => s.zone.down.recognition x.down
  | .mode => s.zone.mode.recognition x.mode

/-- KEY_SAMPLE (R78). -/
def execKeySample (x : KeySample) (s : State) : Host.Outcome State Fault Refusal :=
  .next (if s.sampling then sampleKeys x s else s)

/-- KEY_PRESS: the sample at which a press of Up or Down is recognised, that key taken first (R79, log 8). -/
def execKeyPress (k : Key) (x : KeySample) (s : State) : Host.Outcome State Fault Refusal :=
  .next
    (if s.sampling ∧ k ≠ .mode ∧ s.recognitionAt k x = .press then
      sampleKeys { x with downFirst := decide (k = .down) } s
    else s)

/-- KEY_RELEASE: the sample at which a release of the key is recognised (R78, R82, log 8). -/
def execKeyRelease (k : Key) (x : KeySample) (s : State) : Host.Outcome State Fault Refusal :=
  .next (if s.sampling ∧ s.recognitionAt k x = .release then sampleKeys x s else s)

/-- MODE_PRESS_RECOGNITION: the sample at which a press of Mode is recognised (R80, log 8). -/
def execModePressRecognition (x : KeySample) (s : State) : Host.Outcome State Fault Refusal :=
  .next (if s.sampling ∧ s.recognitionAt .mode x = .press then sampleKeys x s else s)

/-- MODE_SHORT_PRESS: the sample at which a release of Mode is recognised before 3.0 s (R80, log 8). -/
def execModeShortPress (x : KeySample) (s : State) : Host.Outcome State Fault Refusal :=
  .next
    (if s.sampling ∧ isShortPress (s.recognitionAt .mode x) (toKeySample s).timers.modeHold then sampleKeys x s else s)

/-- The two broadcasts a long press offers (R81). -/
def longPressEntries (z : Settings) : List QueueEntry :=
  [⟨0x01, tempCode z.sc, 0, 0⟩, ⟨0x02, tempCode z.sh, 0, 0⟩]

/-- MODE_LONG_PRESS: the Mode hold timer reaches 3.0 s; the set points are offered to the house (R80, R81, R173). The
timer is stopped at 0, where R80 says only that it is stopped: the model's choice (DESIGN CHOICE, notes/assumptions/28).
-/
def execModeLongPress (s : State) : Host.Outcome State Fault Refusal :=
  .next
    (if s.timers.modeHold.running then
      let s1 := elapseTo s.timers.modeHold Config.longPressUs s
      { s1 with
        dir := { s1.dir with queue := offer s1.mayDrive (longPressEntries s1.zone.settings) s1.dir.queue }
        timers := { s1.timers with modeHold := .stopped } }
    else s)

end Sys2Proof.Machine
end

