-- ==== Sys2Proof/Machine/Tick.lean ====
section
/-! DEFINITION. The second tick: SECOND_TICK, and the rows of the table that name a second tick for what it brings about
(RING_EMPTIED, COLD_BLOW_HOLD_END, COIL_FROST_CHANGE, SUPPLY_HOT_CHANGE, AUX_HEAT_ON, NORMAL_STOP, FROST_STOP,
MIN_OFF_END, DEFROST_ENTRY, DEFROST_END, DRIP_END, TRIP_AGE_EXPIRY). Such a row is the whole tick in a state where the
tick brings it about, and does not arise otherwise (notes/assumptions/8). -/

namespace Sys2Proof.Machine

/-- The moment of the next second tick: its clock reaches 1 s and starts again (R62). -/
def toSecond (s : State) : State :=
  let s1 := elapseTo s.timers.second Config.secondUs s
  { s1 with timers := { s1.timers with second := .started } }

/-- The zone station's second tick, after the channels are consumed (R83). -/
def zoneTick (s : State) : State :=
  { s with zone := s.zone.tick (s.damper.fault || !s.damper.homed) s.tempA s.roomHumidity }

/-- The role's work at a second tick (R63). -/
def roleTick (s : State) : State :=
  match s.role with
  | .zone => zoneTick s
  | .handler => handlerTick s
  | .outdoor => outdoorTick s
  | .absent => s

/-- The state at a second tick in which the channels have been consumed. -/
def consumed (s : State) : State := consumeChannels (toSecond s)

/-- The second tick: it finds blocks at work from the entry to LISTEN on, and only time passes before (R62, R72,
R83). -/
def secondTick (s : State) : State :=
  if s.timers.second.running then (if s.started then roleTick (consumed s) else toSecond s) else s

/-- The second tick where it brings `c` about; otherwise the row does not arise. -/
def secondTickFor (c : Bool) (s : State) : State :=
  if s.timers.second.running && s.started && c then secondTick s else s

/-- A channel of the measurement block. -/
def Measurement.channel (m : Measurement) : Channel → CaptureChannel
  | .a => m.a
  | .b => m.b

/-- The tick empties the ring: the consecutive-miss count goes from 2 to 3 (R68). -/
def emptiesRing (ch : Channel) (s : State) : Bool :=
  decide ((s.meas.channel ch).misses < 3 ∧ ((consumed s).meas.channel ch).misses = 3)

/-- The tick ends the cold-blow hold (R138). -/
def endsHold (s : State) : Bool :=
  decide (s.role = .handler) && s.handler.holdActive && !(handlerTick (consumed s)).handler.holdActive

/-- The tick changes COIL_FROST (R139). -/
def changesFrost (s : State) : Bool :=
  decide (s.role = .handler ∧ (handlerTick (consumed s)).handler.coilFrost ≠ s.handler.coilFrost)

/-- The tick changes SUPPLY_HOT (R140). -/
def changesHot (s : State) : Bool :=
  decide (s.role = .handler ∧ (handlerTick (consumed s)).handler.supplyHot ≠ s.handler.supplyHot)

/-- The tick brings the auxiliary heat count to 600 (R141). -/
def bringsAux (s : State) : Bool :=
  decide (s.role = .handler) && !s.handler.auxOn && (handlerTick (consumed s)).handler.auxOn &&
    !s.health.plant.defrost.value

/-- The tick brings the frost stop count to 300 (R152). -/
def bringsFrostStop (s : State) : Bool :=
  decide (s.role = .outdoor) && s.outdoor.comp.isRunning && s.health.plant.coilFrost.value &&
    decide (300 ≤ s.outdoor.frostStop + 1)

/-- The tick makes a normal stop: the compressor stops, and not by the frost stop count (R151). -/
def bringsNormalStop (s : State) : Bool :=
  decide (s.role = .outdoor) && s.outdoor.comp.isRunning && !bringsFrostStop s &&
    decide ((outdoorTick (consumed s)).outdoor.comp = .minOff)

/-- The tick brings the minimum off timer to 180 s in MIN_OFF (R153). -/
def endsMinOff (s : State) : Bool :=
  decide (s.role = .outdoor ∧ s.outdoor.comp = .minOff ∧ 180 ≤ s.outdoor.offTimer + 1)

/-- The defrost state after the defrost machine's move of the tick (R156, R157). -/
def defrostAfterTick (s : State) : DefrostState := (s.outdoor.tickDefrost (consumed s).plantIn).defrost

/-- The tick enters DEFROST (R156). -/
def entersDefrost (s : State) : Bool :=
  decide (s.role = .outdoor ∧ s.outdoor.defrost = .normal ∧ defrostAfterTick s = .defrost)

/-- The tick ends the DEFROST phase (R157). -/
def endsDefrost (s : State) : Bool :=
  decide (s.role = .outdoor ∧ s.outdoor.defrost = .defrost ∧ defrostAfterTick s = .drip)

/-- The tick ends the DRIP phase (R157). -/
def endsDrip (s : State) : Bool :=
  decide (s.role = .outdoor ∧ s.outdoor.defrost = .drip ∧ defrostAfterTick s = .normal)

/-- The tick removes a trip from the history (R159). -/
def expiresTrip (s : State) : Bool :=
  decide (s.role = .outdoor ∧ (ageTrips s.outdoor.trips).length < s.outdoor.trips.length)

/-- SECOND_TICK (R62). -/
def execSecondTick (s : State) : Host.Outcome State Fault Refusal := .next (secondTick s)

/-- RING_EMPTIED (R68). -/
def execRingEmptied (ch : Channel) (s : State) : Host.Outcome State Fault Refusal :=
  .next (secondTickFor (emptiesRing ch s) s)

/-- COLD_BLOW_HOLD_END (R138). -/
def execColdBlowHoldEnd (s : State) : Host.Outcome State Fault Refusal := .next (secondTickFor (endsHold s) s)

/-- COIL_FROST_CHANGE (R139). -/
def execCoilFrostChange (s : State) : Host.Outcome State Fault Refusal := .next (secondTickFor (changesFrost s) s)

/-- SUPPLY_HOT_CHANGE (R140). -/
def execSupplyHotChange (s : State) : Host.Outcome State Fault Refusal := .next (secondTickFor (changesHot s) s)

/-- AUX_HEAT_ON (R141). -/
def execAuxHeatOn (s : State) : Host.Outcome State Fault Refusal := .next (secondTickFor (bringsAux s) s)

/-- NORMAL_STOP (R151, R153). -/
def execNormalStop (s : State) : Host.Outcome State Fault Refusal := .next (secondTickFor (bringsNormalStop s) s)

/-- FROST_STOP (R152). -/
def execFrostStop (s : State) : Host.Outcome State Fault Refusal := .next (secondTickFor (bringsFrostStop s) s)

/-- MIN_OFF_END (R153). -/
def execMinOffEnd (s : State) : Host.Outcome State Fault Refusal := .next (secondTickFor (endsMinOff s) s)

/-- DEFROST_ENTRY (R156). -/
def execDefrostEntry (s : State) : Host.Outcome State Fault Refusal := .next (secondTickFor (entersDefrost s) s)

/-- DEFROST_END (R157). -/
def execDefrostEnd (s : State) : Host.Outcome State Fault Refusal := .next (secondTickFor (endsDefrost s) s)

/-- DRIP_END (R157). -/
def execDripEnd (s : State) : Host.Outcome State Fault Refusal := .next (secondTickFor (endsDrip s) s)

/-- TRIP_AGE_EXPIRY (R159). -/
def execTripAgeExpiry (s : State) : Host.Outcome State Fault Refusal := .next (secondTickFor (expiresTrip s) s)

end Sys2Proof.Machine
end

