-- ==== Sys2Proof/Machine/Directives.lean ====
section
/-! DEFINITION. Chapter 11: execution of directives, the reception tracker, replies, the transmit queue and the latched
test set, and the thirteen directive rows of the table. A directive row is the execution of that directive at the
station (R177; notes/assumptions/9). -/

namespace Sys2Proof.Machine

/-! ### What each code does at execution (R179)

Each effect answers the station with the directive carried out and the data of its DONE, or `none` where it cannot be
carried out. The data is worked out from the station as the effect finds it. -/

/-- SET_COOL (R76). -/
def effectSetCool (arg : Byte) (s : State) : State × Option Byte :=
  let z := s.zone.settings.setSc (tempOfCode arg)
  ({ s with zone := { s.zone with settings := z } }, some (tempCode z.sc))

/-- SET_HEAT (R76). -/
def effectSetHeat (arg : Byte) (s : State) : State × Option Byte :=
  let z := s.zone.settings.setSh (tempOfCode arg)
  ({ s with zone := { s.zone with settings := z } }, some (tempCode z.sh))

/-- SET_HUMID (R76). -/
def effectSetHumid (arg : Byte) (s : State) : State × Option Byte :=
  let z := s.zone.settings.setHl (humOfCode arg)
  ({ s with zone := { s.zone with settings := z } }, some (humCode z.hl))

/-- ZONE_SET (R76). -/
def effectZoneSet (arg : Byte) (s : State) : State × Option Byte :=
  match settingOfCode arg.toNat with
  | some x => ({ s with zone := { s.zone with settings := s.zone.settings.setSetting x } }, some arg)
  | none => (s, none)

/-- READ: the slow item as it stands; items 8 and 9 clear the count they name (R44, R180). -/
def effectRead (arg : Byte) (s : State) : State × Option Byte :=
  ({ s with
      health :=
        { s.health with
          nearEnd := if arg = 8 then 0 else s.health.nearEnd
          farEnd := if arg = 9 then 0 else s.health.farEnd } },
    some (s.slowItem arg.toNat))

/-- The role test is latched with its limited argument (R181). -/
def latchRole (arg : Byte) (s : State) : State :=
  { s with dir := { s.dir with tests := { s.dir.tests with role := some arg } } }

/-- The argument of TEST_DAMPER, limited to 0..100 (R128, R179). -/
def limitDamperArg (arg : Byte) : Byte := BitVec.ofNat 8 (min 100 arg.toNat)

/-- The argument of TEST_BLOWER: 0 stays, others are limited to 75..250 (R144). -/
def limitBlowerArg (arg : Byte) : Byte := if arg = 0 then 0 else BitVec.ofNat 8 (limitTo 75 250 arg.toNat)

/-- The argument of TEST_SPEED: 0 stays, others are limited to 30..100 (R161). -/
def limitSpeedArg (arg : Byte) : Byte := if arg = 0 then 0 else BitVec.ofNat 8 (limitTo 30 100 arg.toNat)

/-- A damper fault is cleared and homing starts; without a fault the damper is not touched (R128). -/
def rehome (s : State) : State :=
  if s.damper.fault then
    s.withMotor ({ s.motor with d := { s.damper with fault := false } } : Motor).startHoming
  else s

/-- TEST_DAMPER (R128). -/
def effectTestDamper (arg : Byte) (s : State) : State × Option Byte :=
  (latchRole (limitDamperArg arg) (rehome s), some (limitDamperArg arg))

/-- TEST_BLOWER (R144). -/
def effectTestBlower (arg : Byte) (s : State) : State × Option Byte :=
  (latchRole (limitBlowerArg arg) s, some (limitBlowerArg arg))

/-- TEST_SPEED (R161). -/
def effectTestSpeed (arg : Byte) (s : State) : State × Option Byte :=
  (latchRole (limitSpeedArg arg) s, some (limitSpeedArg arg))

/-- FORCE_DEFROST: DEFROST is entered, with the fan requested off, or the execution is refused (R155, R157, R158). The
valve is requested at the next second tick and not at the execution, by the words of R154: the model's choice, since the
worked example after R169 shows a request at a defrost entry off the ticks (DESIGN CHOICE, notes/assumptions/34). -/
def effectForceDefrost (s : State) : State × Option Byte :=
  if forceDefrostOk s.mode s.outdoor then
    (s.withPlant ({ s.plant with o := s.outdoor.enterDefrost } : Plant).requestFan, some 0)
  else (s, none)

/-- CORRUPT_CHECK (R182). -/
def effectCorruptCheck (s : State) : State × Option Byte :=
  ({ s with dir := { s.dir with tests := { s.dir.tests with corrupt := true } } }, some 0)

/-- MUTE_COUNT (R182). -/
def effectMuteCount (s : State) : State × Option Byte :=
  ({ s with dir := { s.dir with tests := { s.dir.tests with mute := true } } }, some 0)

/-- CLEAR_TRIP (R160). -/
def effectClearTrip (s : State) : State × Option Byte :=
  ({ s with outdoor := { s.outdoor with lockout := false, trips := [] } }, some 0)

/-- NORMAL: every test is released (R181). -/
def effectNormal (s : State) : State × Option Byte :=
  ({ s with dir := { s.dir with tests := .cleared } }, some (BitVec.ofNat 8 s.dir.tests.size))

/-- The codes of the table (R179). -/
inductive Code where
  | setCool
  | setHeat
  | setHumid
  | zoneSet
  | read
  | testDamper
  | testBlower
  | testSpeed
  | forceDefrost
  | corruptCheck
  | muteCount
  | clearTrip
  | normal
  deriving DecidableEq, Repr

/-- A code's number (R179). -/
def Code.number : Code → Byte
  | .setCool => 0x01
  | .setHeat => 0x02
  | .setHumid => 0x03
  | .zoneSet => 0x04
  | .read => 0x10
  | .testDamper => 0x20
  | .testBlower => 0x21
  | .testSpeed => 0x22
  | .forceDefrost => 0x23
  | .corruptCheck => 0x30
  | .muteCount => 0x31
  | .clearTrip => 0x3E
  | .normal => 0x3F

/-- The code a number names, if it is in the table (R179). -/
def codeOf (n : Byte) : Option Code :=
  if n = 0x01 then some .setCool
  else if n = 0x02 then some .setHeat
  else if n = 0x03 then some .setHumid
  else if n = 0x04 then some .zoneSet
  else if n = 0x10 then some .read
  else if n = 0x20 then some .testDamper
  else if n = 0x21 then some .testBlower
  else if n = 0x22 then some .testSpeed
  else if n = 0x23 then some .forceDefrost
  else if n = 0x30 then some .corruptCheck
  else if n = 0x31 then some .muteCount
  else if n = 0x3E then some .clearTrip
  else if n = 0x3F then some .normal
  else none

/-- The roles a code is for (R179). -/
def Code.forRole (c : Code) (r : Role) : Bool :=
  match c with
  | .setCool => decide (r = .zone)
  | .setHeat => decide (r = .zone)
  | .setHumid => decide (r = .zone)
  | .zoneSet => decide (r = .zone)
  | .testDamper => decide (r = .zone)
  | .testBlower => decide (r = .handler)
  | .testSpeed => decide (r = .outdoor)
  | .forceDefrost => decide (r = .outdoor)
  | .clearTrip => decide (r = .outdoor)
  | .read => true
  | .corruptCheck => true
  | .muteCount => true
  | .normal => true

/-- An argument lies in the set of an enumerated code: ZONE_SET up to 3, READ up to 15 (R177). -/
def Code.argOk (c : Code) (arg : Byte) : Bool :=
  match c with
  | .zoneSet => decide (arg.toNat ≤ 3)
  | .read => decide (arg.toNat ≤ 15)
  | .setCool => true
  | .setHeat => true
  | .setHumid => true
  | .testDamper => true
  | .testBlower => true
  | .testSpeed => true
  | .forceDefrost => true
  | .corruptCheck => true
  | .muteCount => true
  | .clearTrip => true
  | .normal => true

/-- The code a station takes up, none where the directive is refused at reception (R177). -/
def acceptedCode (r : Role) (d : Directive) : Option Code :=
  match codeOf d.code with
  | some c => if c.forRole r && c.argOk d.arg then some c else none
  | none => none

/-- The action of a code (R179). -/
def Code.effect (c : Code) (arg : Byte) (s : State) : State × Option Byte :=
  match c with
  | .setCool => effectSetCool arg s
  | .setHeat => effectSetHeat arg s
  | .setHumid => effectSetHumid arg s
  | .zoneSet => effectZoneSet arg s
  | .read => effectRead arg s
  | .testDamper => effectTestDamper arg s
  | .testBlower => effectTestBlower arg s
  | .testSpeed => effectTestSpeed arg s
  | .forceDefrost => effectForceDefrost s
  | .corruptCheck => effectCorruptCheck s
  | .muteCount => effectMuteCount s
  | .clearTrip => effectClearTrip s
  | .normal => effectNormal s

/-! ### Execution, tracking and replies (R176 to R178) -/

/-- A directive carried out, or refused at reception with no action (R177). -/
def carryOut (d : Directive) (s : State) : State × Option Byte :=
  match acceptedCode s.role d with
  | some c => c.effect d.arg s
  | none => (s, none)

/-- The outcome an execution keeps: DONE with its data, or UNABLE with the argument (R177). -/
def resultOf (d : Directive) (data : Option Byte) : ExecResult :=
  match data with
  | some x => ⟨true, x⟩
  | none => ⟨false, d.arg⟩

/-- The station executes the directive, once: the tracker stands at 3 with the executed mark and the outcome (R177). -/
def execute (d : Directive) (s : State) : State :=
  let r := carryOut d s
  { r.1 with dir := { r.1.dir with tracker := ⟨some d, 3, some (resultOf d r.2)⟩ } }

/-- The tracker after the DIRECTIVE field of an accepted round handed on, before any execution (R176). -/
def Tracker.update (field : Option Directive) (t : Tracker) : Tracker :=
  match field with
  | none => .cleared
  | some d => if t.last = some d then { t with count := min 3 (t.count + 1) } else ⟨some d, 1, none⟩

/-- The reply owed for a unicast to the station (R178). -/
def replyOf (r : Role) (d : Directive) (t : Tracker) : Reply :=
  match t.executed with
  | some x => if x.done then ⟨2, x.data⟩ else ⟨3, d.arg⟩
  | none => if (acceptedCode r d).isSome then ⟨1, d.arg⟩ else ⟨3, d.arg⟩

/-- The pending reply after a round's directive: owed for a unicast to the station's own address (R178). -/
def owedReply (s : State) (d : Directive) : Option Reply :=
  if d.dest = s.rst.address then some (replyOf s.role d s.dir.tracker) else none

/-- The station with the reply it owes for the directive, if it owes one (R178). -/
def oweReply (d : Directive) (s : State) : State := { s with dir := { s.dir with reply := owedReply s d } }

/-- The directive unit's work at an accepted round handed on (R176 to R178). -/
def directiveRound (s : State) : State :=
  let field := unpackDirective s.health.view.directive
  let t := s.dir.tracker.update field
  let s1 : State := { s with dir := { s.dir with tracker := t } }
  match field with
  | none => { s1 with dir := { s1.dir with reply := none } }
  | some d =>
    if t.count = 3 ∧ t.executed = none ∧ d.addressedTo s.rst.address then oweReply d (execute d s1)
    else oweReply d s1

/-! ### The transmit queue (R174) -/

/-- The head entry's win count by the decision and the outcome in DIRECTIVE, if the station sent it (R174). -/
def QueueEntry.decided (accepted : Bool) (out : Option Arbitration) (e : QueueEntry) : QueueEntry :=
  if accepted then
    match out with
    | some .won => { e with wins := min 3 (e.wins + 1) }
    | some .lost => { e with wins := 0 }
    | none => e
  else e

/-- Step 1 of R174: the head entry's win count. -/
def countWin (accepted : Bool) (out : Option Arbitration) : List QueueEntry → List QueueEntry
  | [] => []
  | e :: rest => e.decided accepted out :: rest

/-- Step 2 of R174: an entry one round older. -/
def QueueEntry.older (e : QueueEntry) : QueueEntry := { e with age := min 16 (e.age + 1) }

/-- The first removal of step 3 of R174: a head entry with three wins. -/
def dropWon : List QueueEntry → List QueueEntry
  | [] => []
  | e :: rest => if 3 ≤ e.wins then rest else e :: rest

/-- The queue after the decision on a round the station drove: win count, ages, removals (R174). -/
def updateQueue (accepted : Bool) (out : Option Arbitration) (q : List QueueEntry) : List QueueEntry :=
  (dropWon ((countWin accepted out q).map QueueEntry.older)).filter (·.age < 16)

/-- The DIRECTIVE value the station sends: its queue's head, as a broadcast, while it is JOINED (R21, R174). -/
def State.headDirective (s : State) : Option (BitVec 24) :=
  if s.health.link = .joined then
    match s.dir.queue with
    | [] => none
    | e :: _ => some (packDirective ⟨s.rst.address, 15, e.code, e.arg⟩)
  else none

/-! ### The directive rows -/

/-- A directive row: the station, JOINED and addressed by a directive of a source that sends, executes it and owes its
reply (R172, R177, R178); elsewhere the row does not arise. -/
def runDirective (c : Code) (source dest : Nibble) (arg : Byte) (s : State) : State :=
  let d : Directive := ⟨source, dest, c.number, arg⟩
  if s.health.link = .joined ∧ source ≠ 15 ∧ d.addressedTo s.rst.address then oweReply d (execute d s) else s

/-- SET_COOL (R76). -/
def execSetCool (source dest : Nibble) (arg : Byte) (s : State) : Host.Outcome State Fault Refusal :=
  .next (runDirective .setCool source dest arg s)

/-- SET_HEAT (R76). -/
def execSetHeat (source dest : Nibble) (arg : Byte) (s : State) : Host.Outcome State Fault Refusal :=
  .next (runDirective .setHeat source dest arg s)

/-- SET_HUMID (R76). -/
def execSetHumid (source dest : Nibble) (arg : Byte) (s : State) : Host.Outcome State Fault Refusal :=
  .next (runDirective .setHumid source dest arg s)

/-- ZONE_SET (R76). -/
def execZoneSet (source dest : Nibble) (arg : Byte) (s : State) : Host.Outcome State Fault Refusal :=
  .next (runDirective .zoneSet source dest arg s)

/-- READ (R180). -/
def execRead (source dest : Nibble) (arg : Byte) (s : State) : Host.Outcome State Fault Refusal :=
  .next (runDirective .read source dest arg s)

/-- TEST_DAMPER (R128). -/
def execTestDamper (source dest : Nibble) (arg : Byte) (s : State) : Host.Outcome State Fault Refusal :=
  .next (runDirective .testDamper source dest arg s)

/-- TEST_BLOWER (R144). -/
def execTestBlower (source dest : Nibble) (arg : Byte) (s : State) : Host.Outcome State Fault Refusal :=
  .next (runDirective .testBlower source dest arg s)

/-- TEST_SPEED (R161). -/
def execTestSpeed (source dest : Nibble) (arg : Byte) (s : State) : Host.Outcome State Fault Refusal :=
  .next (runDirective .testSpeed source dest arg s)

/-- FORCE_DEFROST (R158). -/
def execForceDefrost (source dest : Nibble) (arg : Byte) (s : State) : Host.Outcome State Fault Refusal :=
  .next (runDirective .forceDefrost source dest arg s)

/-- CORRUPT_CHECK (R182). -/
def execCorruptCheck (source dest : Nibble) (arg : Byte) (s : State) : Host.Outcome State Fault Refusal :=
  .next (runDirective .corruptCheck source dest arg s)

/-- MUTE_COUNT (R182). -/
def execMuteCount (source dest : Nibble) (arg : Byte) (s : State) : Host.Outcome State Fault Refusal :=
  .next (runDirective .muteCount source dest arg s)

/-- CLEAR_TRIP (R160). -/
def execClearTrip (source dest : Nibble) (arg : Byte) (s : State) : Host.Outcome State Fault Refusal :=
  .next (runDirective .clearTrip source dest arg s)

/-- NORMAL (R181). -/
def execNormal (source dest : Nibble) (arg : Byte) (s : State) : Host.Outcome State Fault Refusal :=
  .next (runDirective .normal source dest arg s)

end Sys2Proof.Machine
end

