-- ==== Sys2Proof/Machine/Acceptance.lean ====
section
/-! DEFINITION. Chapter 3: the PLANT filter, the entries to LISTEN and ISOLATED, the handing on of an accepted round,
and the decision on a round with all it moves. -/

namespace Sys2Proof.Machine

/-! ### The PLANT agreement filter (R45) -/

/-- One flag at an accepted decision (R45). -/
def FlagFilter.update (wire : Bool) (f : FlagFilter) : FlagFilter :=
  if wire = f.value then ⟨f.value, 0⟩
  else if 3 ≤ f.agree + 1 then ⟨wire, 0⟩
  else ⟨f.value, f.agree + 1⟩

/-- The eight flags at an accepted decision, each on its own (R27, R45). -/
def PlantFilter.update (plant : Byte) (f : PlantFilter) : PlantFilter where
  hpTrip := f.hpTrip.update (plant.getLsbD 7)
  supplyHot := f.supplyHot.update (plant.getLsbD 6)
  fanRun := f.fanRun.update (plant.getLsbD 5)
  coilFrost := f.coilFrost.update (plant.getLsbD 4)
  overflow := f.overflow.update (plant.getLsbD 3)
  lockout := f.lockout.update (plant.getLsbD 2)
  defrost := f.defrost.update (plant.getLsbD 1)
  compRun := f.compRun.update (plant.getLsbD 0)

/-! ### Entries to LISTEN and ISOLATED (R49, R55) -/

/-- The line block on an entry to LISTEN: the receive side starts in IDLE, and nothing is driven (R2, R49). -/
def LineBlock.toListen (l : LineBlock) : LineBlock :=
  { l with rx := .idle, pace := .ahead, silenceWaits := false, permission := false }

/-- The acceptance and health block on an entry to LISTEN (R49). -/
def Health.toListen (h : Health) : Health :=
  { h with
    link := .listen
    joining := 0
    plant := .cleared
    clashCount := 0
    disagree := false
    lastAccepted := false
    candidate := none }

/-- The timers on an entry to LISTEN: the round timer from 0, the isolation timer stopped, and the run detector, which
measures a run already in progress from here (R5, R11, R56). That stopped timers show 0 is the model's choice (DESIGN
CHOICE, notes/assumptions/28). -/
def Timers.toListen (dominant : Bool) (t : Timers) : Timers :=
  { t with
    round := .started
    isolation := .stopped
    mark := .stopped
    run := if dominant then .started else .stopped }

/-- The entry to LISTEN (R49): the tracker is emptied and a pending reply discarded (R176, R178), and the zone is not
served (R86). -/
def enterListen (s : State) : State :=
  { s with
    line := s.line.toListen
    asm := { s.asm with image := none }
    health := s.health.toListen
    timers := s.timers.toListen s.line.dominant
    dir := { s.dir with tracker := .cleared, reply := none }
    zone := { s.zone with served := false } }

/-- The directive unit on an entry to ISOLATED: tests released, queue emptied, reply discarded (R55, R175, R178,
R181). -/
def DirectiveUnit.isolate (u : DirectiveUnit) : DirectiveUnit :=
  { u with queue := [], reply := none, tests := .cleared }

/-- The acceptance and health block on an entry to ISOLATED, by a clash or not (R48, R55). -/
def Health.isolate (clash : Bool) (h : Health) : Health :=
  { h with link := .isolated, disagree := false, badRun := 0, addressClash := h.addressClash || clash }

/-- The role block's safe state (R55). -/
def roleSafe (s : State) : State :=
  match s.role with
  | .zone => zoneSafe s
  | .handler => handlerSafe s
  | .outdoor => outdoorSafe s
  | .absent => s

/-- The entry to ISOLATED, by a clash or by the consecutive-bad count (R48, R54, R55). The isolation timer is started
unless the cause is a clash (R56). That stopped timers show 0 is the model's choice (DESIGN CHOICE,
notes/assumptions/28). -/
def enterIsolated (clash : Bool) (s : State) : State :=
  roleSafe
    { s with
      line := { s.line with permission := false }
      asm := { s.asm with image := none }
      health := s.health.isolate clash
      coll := ⟨.rest, .rest⟩
      zone := { s.zone with served := false }
      dir := s.dir.isolate
      timers := { s.timers with mark := .stopped, isolation := if clash then .stopped else .started } }

/-! ### The accepted round handed on (R39) -/

/-- The role block's work at an accepted round handed on (R39). A zone works with the settings `z` that it had before
the directive unit took up the round (R177; notes/assumptions/10). -/
def roleRound (z : Settings) (s : State) : State :=
  match s.role with
  | .zone => zoneRound z s
  | .handler => handlerRound s
  | .outdoor => outdoorRound s
  | .absent => s

/-- An accepted round is handed on to the collective mode block, the directive unit and the role block (R39). -/
def handOn (s : State) : State :=
  roleRound s.zone.settings
    (directiveRound { s with coll := s.coll.round s.health.view s.health.plant })

/-! ### The decision (R37 to R43, R47 to R54) -/

/-- The decision is accepted (R37). -/
def Verdict.isAccepted : Verdict → Bool
  | .accepted => true
  | .missing => false
  | .incomplete => false
  | .framing => false
  | .mismatch => false

/-- The near-end count rises (R42): a bad decision on a round the station drove, or a missing round. -/
def countsNear (v : Verdict) (permission : Bool) : Bool := !v.isAccepted && (permission || decide (v = .missing))

/-- The far-end count rises (R43). -/
def countsFar (v : Verdict) (permission lastAccepted : Bool) (wire : View) : Bool :=
  v.isAccepted && permission && wire.disagree && lastAccepted

/-- One more, up to 255 (R42, R43). -/
def countUp (n : Nat) : Nat := min 255 (n + 1)

/-- The acceptance block at a decision: error counts, DISAGREE, clash count, record, view and filter (R38, R41 to R45,
R47). `permission` says that the station drove the round, `mute` that MUTE_COUNT is latched (R44). -/
def Health.decided (v : Verdict) (permission mute : Bool) (wire : View) (h : Health) : Health :=
  { h with
    nearEnd := if countsNear v permission && !mute then countUp h.nearEnd else h.nearEnd
    farEnd := if countsFar v permission h.lastAccepted wire && !mute then countUp h.farEnd else h.farEnd
    disagree := decide (v = .mismatch)
    clashCount :=
      if v.isAccepted && permission then (if h.clashMark then min 2 (h.clashCount + 1) else 0) else h.clashCount
    lastAccepted := v.isAccepted
    view := if v.isAccepted then wire else h.view
    plant := if v.isAccepted then h.plant.update wire.plant else h.plant }

/-- The round index at a decision: the wire IDX or the sent index, for a round that had one (R22). -/
def Assembler.decided (v : Verdict) (permission : Bool) (wireIdx : Nibble) (x : Assembler) : Assembler :=
  match x.image with
  | some im =>
    if permission ∧ v ≠ .missing then { x with index := if v.isAccepted then wireIdx else im.idx } else x
  | none => x

/-- The transmit queue at a decision on a round the station drove (R174). -/
def DirectiveUnit.decided (v : Verdict) (permission : Bool) (out : Option Arbitration) (u : DirectiveUnit) :
    DirectiveUnit :=
  if permission ∧ v ≠ .missing then { u with queue := updateQueue v.isAccepted out u.queue } else u

/-- The blocks that a decision reaches before the link state moves (R37). -/
def decideRound (v : Verdict) (wire : View) (s : State) : State :=
  { s with
    health := s.health.decided v s.line.permission s.dir.tests.mute wire
    asm := s.asm.decided v s.line.permission wire.idx
    dir := s.dir.decided v s.line.permission s.line.outcomes.directive }

/-- The decision brings the clash count to 2 (R48). -/
def clashes (v : Verdict) (s : State) : Bool :=
  v.isAccepted && s.line.permission && decide (2 ≤ s.health.clashCount)

/-- JOINED after an accepted decision, with the consecutive-bad count at 0 (R51, R53). -/
def Health.join (h : Health) : Health := { h with link := .joined, badRun := 0 }

/-- A decision in LISTEN moves the joining count, and the eighth accepted one joins the house (R49). -/
def listenMove (v : Verdict) (s : State) : State :=
  if v.isAccepted then
    if 8 ≤ s.health.joining + 1 then
      handOn { s with health := { s.health.join with joining := 0 }, asm := { s.asm with index := s.health.view.idx } }
    else { s with health := { s.health with joining := s.health.joining + 1 } }
  else { s with health := { s.health with joining := 0 } }

/-- A decision in JOINED moves the consecutive-bad count, and the fourth bad one enters HOLDOVER (R51). -/
def joinedMove (v : Verdict) (s : State) : State :=
  if v.isAccepted then handOn { s with health := s.health.join }
  else if 4 ≤ s.health.badRun + 1 then
    { s with health := { s.health with badRun := s.health.badRun + 1, link := .holdover } }
  else { s with health := { s.health with badRun := s.health.badRun + 1 } }

/-- A decision in HOLDOVER returns to JOINED, or moves the consecutive-bad count and at 30 enters ISOLATED (R53,
R54). -/
def holdoverMove (v : Verdict) (s : State) : State :=
  if v.isAccepted then handOn { s with health := s.health.join }
  else if 30 ≤ s.health.badRun + 1 then enterIsolated false s
  else { s with health := { s.health with badRun := s.health.badRun + 1 } }

/-- The link state machine at a decision that is no clash (R49, R51, R53, R54). -/
def linkMove (v : Verdict) (s : State) : State :=
  match s.health.link with
  | .listen => listenMove v s
  | .joined => joinedMove v s
  | .holdover => holdoverMove v s
  | .isolated => s
  | .quiet => s

/-- Decisions are taken in LISTEN, JOINED and HOLDOVER (R37). -/
def State.decides (s : State) : Bool :=
  match s.health.link with
  | .listen => true
  | .joined => true
  | .holdover => true
  | .isolated => false
  | .quiet => false

/-- The decision `v` on a round whose fields read as `wire` (R37 to R54). -/
def takeDecision (v : Verdict) (wire : View) (s : State) : State :=
  if s.decides then
    let s1 := decideRound v wire s
    if clashes v s1 then enterIsolated true s1 else linkMove v s1
  else s

end Sys2Proof.Machine
end

