-- ==== Sys2Proof/Machine/Line.lean ====
section
/-! DEFINITION. Chapters 1 and 2: the round image, what a station drives and compares in a window, and the commands of
the line: DOMINANT_RUN_LEADING_EDGE, NOISE_RUN_END, SYNC_RECOGNISED, ROUND_TIMER_PA, SYNC_MARK_RELEASE, ROUND_START,
ROUND_END, MISSING_ROUND, SILENCE_EVENT and ISOLATION_TIMER_EXPIRY. -/

namespace Sys2Proof.Machine

/-! ### The round image (R15, R21) -/

/-- The station's bit in the bitmap of the call `c`: its own address while it is a ZONE station with that call
(R24). -/
def State.callBit (s : State) (c : Call) : Bitmap :=
  if s.role = .zone ∧ s.zone.call = c then addressBit s.rst.address else 0

/-- The station's demand in the peak of the call `c`: sent while it is a ZONE station with that call (R24). -/
def State.peak (s : State) (c : Call) : Option Byte :=
  if s.role = .zone ∧ s.zone.call = c then some (BitVec.ofNat 8 s.zone.d) else none

/-- The round image taken from the state as it stands at the round start (R15, R21 to R29, R36). -/
def State.roundImage (s : State) : Image where
  idx := s.asm.index + 1
  pres := addressBit s.rst.address
  callc := s.callBit .cool
  callh := s.callBit .heat
  calld := s.callBit .dry
  peakc := s.peak .cool
  peakh := s.peak .heat
  plant := s.plantByte
  state := packState s.coll.proposal
  share := s.shareByte
  slow := s.slowItem (s.asm.index + 1).toNat
  directive := s.headDirective
  reply := s.dir.reply.map (packReply s.rst.address)
  flags := s.flagBits
  invertCheck := s.dir.tests.corrupt && decide (s.asm.index + 1 = 0)

/-! ### What the station drives and compares in a window (R1, R15 to R19, R36) -/

/-- The value a station drives in a MAX field; nothing where it takes no part (R18, R21). -/
def drivenMax {w : Nat} (own : Option (BitVec w)) (wire : BitVec w) : BitVec w :=
  match own with
  | some v => arbitrated v wire
  | none => 0

/-- The SLOW byte a station drives: recessive when it lost IDX (R23). -/
def Image.slowDriven (im : Image) (wireIdx : Nibble) : Byte :=
  match arbitrationOf im.idx wireIdx with
  | .won => im.slow
  | .lost => 0

/-- The check a station drives: its computed check, or the inverse under CORRUPT_CHECK (R17, R36). -/
def Image.checkDriven (im : Image) (computed : BitVec 12) : BitVec 12 := if im.invertCheck then ~~~computed else computed

/-- Everything a station with the image `im` drives, field by field, while it reads `data` (R16 to R19, R21). -/
def Image.driven (address : Nibble) (im : Image) (data : RoundBits) : View where
  idx := arbitrated im.idx (viewOf data).idx
  pres := im.pres
  callc := im.callc
  callh := im.callh
  calld := im.calld
  peakc := drivenMax im.peakc (viewOf data).peakc
  peakh := drivenMax im.peakh (viewOf data).peakh
  plant := im.plant
  state := arbitrated im.state (viewOf data).state
  share := placeSlot address.toNat im.share
  slow := placeSlot address.toNat (im.slowDriven (viewOf data).idx)
  directive := drivenMax im.directive (viewOf data).directive
  reply := im.reply.getD 0
  flags := im.flags
  check := im.checkDriven (computedCheck data)

/-- The outcome of a MAX field: none for a field the station took no part in, LOST where the cut came before the
field's end (R10, R18). -/
def outcomeOf {w : Nat} (finished : Bool) (own : Option (BitVec w)) (wire : BitVec w) : Option Arbitration :=
  match own with
  | some v => some (if finished then arbitrationOf v wire else .lost)
  | none => none

/-- The outcomes of the MAX fields when `ended` data bits of the window have ended: an outcome is set at the end of the
field's last bit, not at its sample point (R10, R18, R20). -/
def outcomesOf (im : Image) (ended : Nat) (wire : View) : Outcomes where
  idx := outcomeOf (decide (4 ≤ ended)) (some im.idx) wire.idx
  peakc := outcomeOf (decide (76 ≤ ended)) im.peakc wire.peakc
  peakh := outcomeOf (decide (84 ≤ ended)) im.peakh wire.peakh
  state := outcomeOf (decide (104 ≤ ended)) (some im.state) wire.state
  directive := outcomeOf (decide (352 ≤ ended)) im.directive wire.directive

/-- A bit reaches the clash detector: in the own SHARE slot, the own SLOW slot, or as responder in REPLY (R19, R47). -/
def clashIn (address : Nibble) (im : Image) (driven wire : View) : Bool :=
  overdriven (slotByte driven.share address.toNat) (slotByte wire.share address.toNat) ||
    overdriven (slotByte driven.slow address.toNat) (slotByte wire.slow address.toNat) ||
    (im.reply.isSome && overdriven driven.reply wire.reply)

/-- The line block when `bits` data bits of a window have been sampled, which read as `data`, and `ended` of them have
ended (R1, R3, R18). -/
def LineBlock.read (address : Nibble) (image : Option Image) (bits ended : Nat) (data : RoundBits) (l : LineBlock) :
    LineBlock :=
  match image with
  | some im =>
    { l with
      outcomes := outcomesOf im ended (viewOf data)
      driven := viewOf (keepFirst bits (bitsOf (im.driven address data))) }
  | none => { l with outcomes := .cleared, driven := .zero }

/-- The clash mark after `bits` data bits of a window, which read as `data` (R47). Without a round image, in LISTEN, the
mark stays clear: the model's choice, since the rules do not say whether a slot is left recessive by a station that
drives no round (DESIGN CHOICE, notes/assumptions/30). -/
def clashMarkAfter (address : Nibble) (image : Option Image) (bits : Nat) (data : RoundBits) (mark : Bool) : Bool :=
  match image with
  | some im => mark || clashIn address im (viewOf (keepFirst bits (bitsOf (im.driven address data)))) (viewOf data)
  | none => mark

/-- The acceptance block after `bits` data bits of a window, which read as `data`, when the window is handed over: the
check register, the clash mark, and no round being read any more (R35, R38, R47). -/
def Health.read (address : Nibble) (image : Option Image) (bits : Nat) (data : RoundBits) (h : Health) : Health :=
  { h with
    check := checkOf (firstBits (min bits 372) data)
    clashMark := clashMarkAfter address image bits data h.clashMark
    candidate := none }

/-! ### Dominant runs and the sync mark (R4, R5, R12, R14) -/

/-- The receive state reads a round (R6). -/
def RxState.inRound : RxState → Bool
  | .guard => true
  | .window => true
  | .idle => false
  | .syncSeen => false

/-- DOMINANT_RUN_LEADING_EDGE (R5): the line goes dominant, and a receiving station measures the run. -/
def execDominantRunLeadingEdge (s : State) : Host.Outcome State Fault Refusal :=
  .next
    (if s.line.dominant then s
    else
      { s with
        line := { s.line with dominant := true }
        timers := { s.timers with run := if s.receives then .started else s.timers.run } })

/-- The station begins to drive its sync mark (R4, R12). -/
def driveMark (s : State) : State :=
  { s with line := { s.line with pace := .met }, timers := { s.timers with mark := .started } }

/-- The Pa expiry: the station drives its mark on a recessive line, and otherwise defers (R12). -/
def paExpiry (s : State) : State :=
  if s.line.dominant then { s with line := { s.line with pace := .deferred } } else driveMark s

/-- ROUND_TIMER_PA: the round timer of a JOINED or HOLDOVER station reaches Pa (R12). -/
def execRoundTimerPa (s : State) : Host.Outcome State Fault Refusal :=
  .next
    (if s.mayDrive ∧ s.line.pace = .ahead then paExpiry (elapseTo s.timers.round s.paUs s)
    else s)

/-- SYNC_MARK_RELEASE: 16 bit times after it began, the mark ends (R4). Its timer then shows 0 (notes/assumptions/28). -/
def execSyncMarkRelease (s : State) : Host.Outcome State Fault Refusal :=
  .next
    (if s.timers.mark.running then
      let s1 := elapseTo s.timers.mark (Config.bitsUs Config.markBits) s
      { s1 with timers := { s1.timers with mark := .stopped } }
    else s)

/-- The entry to JOINED as lone pacer: (OFF, 0), index 15, no bad rounds, and the Pa expiry met at once (R14, R50,
R107). -/
def lonePacer (s : State) : State :=
  paExpiry
    { s with
      line := { s.line with silenceWaits := false }
      asm := { s.asm with index := 15 }
      health := { s.health with link := .joined, badRun := 0 }
      coll := ⟨.rest, .rest⟩
      timers := { s.timers with round := ⟨true, s.paUs⟩ } }

/-- A run that ended short has been measured: the line is recessive, and a run of 5 bit times or more in the guard or
the window is a framing error (R5, R9; notes/assumptions/24). The run detector then shows 0 (notes/assumptions/28). -/
def runEnds (s : State) : State :=
  { s with
    line :=
      { s.line with
        dominant := false
        framing :=
          s.line.framing ||
            (s.line.rx.inRound && decide (Config.bitsUs Config.framingBits ≤ s.timers.run.us)) }
    timers := { s.timers with run := .stopped } }

/-- What waited for the end of a run that was noise: the station's own mark, or its silence event (R12, R14). -/
def afterNoise (s : State) : State :=
  if s.line.pace = .deferred ∧ s.mayDrive then driveMark s
  else if s.line.silenceWaits ∧ s.health.link = .listen then lonePacer s
  else s

/-- NOISE_RUN_END: a run ends shorter than 12 bit times (R5, R9, R12, R14). In QUIET, where the receive side hands nothing
on and no other row brings the end of a run, the command ends a run of any length (DESIGN CHOICE,
notes/assumptions/31). -/
def execNoiseRunEnd (bits : Nat) (s : State) : Host.Outcome State Fault Refusal :=
  .next
    (if s.line.dominant then
      if s.receives then
        if s.line.rx = .syncSeen then s
        else afterNoise (runEnds (elapseTo s.timers.run (Config.bitsUs (min bits 11)) s))
      else { s with line := { s.line with dominant := false } }
    else s)

/-! ### Sync, round start and round end (R5 to R10) -/

/-- A window is cut short (R10): what has been sampled by then, by the round timer, is compared, the outcomes of fields
whose last bit has not ended are LOST, and the cut-short window is handed to the acceptance block, which decides it. -/
def cutShort (levels : RoundBits) (s : State) : State :=
  let bits := dataBitsIn (samplesBy s.timers.round.us)
  let data := keepFirst bits levels
  takeDecision .incomplete (viewOf data)
    { s with
      line :=
        { s.line.read s.rst.address s.asm.image bits (dataBitsIn (bitsEndedBy s.timers.round.us)) data with rx := .syncSeen, framing := true }
      health := s.health.read s.rst.address s.asm.image bits data }

/-- SYNC_RECOGNISED: the run in progress reaches 12 bit times (R5, R10). In a round the run itself is a framing error (R9),
so the levels at the guard bits and the spacers decide nothing more. -/
def execSyncRecognised (data : RoundBits) (_frame : FrameLevels) (s : State) : Host.Outcome State Fault Refusal :=
  .next
    (if s.receives ∧ s.line.dominant ∧ s.line.rx ≠ .syncSeen then
      let s1 := elapseTo s.timers.run (Config.bitsUs Config.syncBits) s
      if s1.line.rx.inRound then cutShort data s1 else { s1 with line := { s1.line with rx := .syncSeen } }
    else s)

/-- The damper target of a round start: the test's argument × 4, or the pending target (R119). -/
def targetInEffect (test : Option Byte) (pending : Nat) : Nat :=
  match test with
  | some a => a.toNat * 4
  | none => pending

/-- The zone's target in effect at a round start reaches the damper machine at once (R119, R121). -/
def zoneRoundStart (s : State) : State :=
  s.withMotor (s.motor.setTarget (targetInEffect s.dir.tests.role s.damper.pending))

/-- The staged outputs of the role take effect (R6, R119, R134, R136, R148). -/
def roleRoundStart (s : State) : State :=
  match s.role with
  | .zone => zoneRoundStart s
  | .handler => handlerRoundStart s
  | .outdoor => outdoorRoundStart s
  | .absent => s

/-- The line block at a round start (R6). -/
def LineBlock.start (drives : Bool) (l : LineBlock) : LineBlock :=
  { l with
    rx := .guard
    dominant := false
    pace := .ahead
    silenceWaits := false
    framing := false
    permission := drives
    outcomes := .cleared }

/-- The acceptance block at a round start (R35, R38, R47). That the candidate view reads 0 before a bit is entered is the
model's choice (DESIGN CHOICE, notes/assumptions/33). -/
def Health.start (h : Health) : Health :=
  { h with check := 0xFFF#12, candidate := some .zero, clashMark := false }

/-- A round start: steps 1 to 6 of R6, the pending reply taken into the image (R178), and then the staged outputs
(notes/assumptions/17). -/
def roundStart (s : State) : State :=
  roleRoundStart
    { s with
      line := s.line.start s.mayDrive
      asm := { s.asm with image := if s.mayDrive then some s.roundImage else none }
      health := s.health.start
      dir := { s.dir with reply := if s.mayDrive then none else s.dir.reply }
      timers := { s.timers with round := .started, run := .stopped } }

/-- ROUND_START: the trailing edge of a recognised sync (R6). -/
def execRoundStart (s : State) : Host.Outcome State Fault Refusal :=
  .next (if s.line.rx = .syncSeen then roundStart s else s)

/-- A dominant guard bit or spacer (R7, R9). -/
def framingIn (w : Window) : Bool := decide (w.guards ≠ 0 ∨ w.spacers ≠ 0)

/-- The decision on a complete window (R36, R37). -/
def verdictOf (framing : Bool) (data : RoundBits) : Verdict :=
  if framing then .framing else if computedCheck data = (viewOf data).check then .accepted else .mismatch

/-- A complete window is handed to the acceptance block with its framing mark, and decided (R8, R37). Drive permission and
the round image keep their values from here, or from a cut, to the next round start: the model's choice, since R2 gives
permission for the field window alone (DESIGN CHOICE, notes/assumptions/32). -/
def windowEnd (w : Window) (s : State) : State :=
  takeDecision (verdictOf (s.line.framing || framingIn w) w.data) (viewOf w.data)
    { s with
      line :=
        { s.line.read s.rst.address s.asm.image 384 384 w.data with
          rx := .idle
          framing := s.line.framing || framingIn w }
      health := s.health.read s.rst.address s.asm.image 384 w.data }

/-- ROUND_END: 482 bit times after the round start (R8). -/
def execRoundEnd (w : Window) (s : State) : Host.Outcome State Fault Refusal :=
  .next
    (if s.line.rx.inRound then windowEnd w (elapseTo s.timers.round (Config.bitsUs Config.roundBits) s) else s)

/-! ### Missing rounds, silence and isolation (R13, R14, R56) -/

/-- MISSING_ROUND: the round timer of a JOINED or HOLDOVER station reaches 2 × Pa (R13). -/
def execMissingRound (s : State) : Host.Outcome State Fault Refusal :=
  .next
    (if s.mayDrive then
      let s1 := elapseTo s.timers.round (2 * s.paUs) s
      takeDecision .missing .zero
        { s1 with line := { s1.line with pace := .ahead }, timers := { s1.timers with round := .started } }
    else s)

/-- SILENCE_EVENT: the round timer of a LISTEN station reaches 3 × Pa; a dominant run in progress defers it (R14). -/
def execSilenceEvent (s : State) : Host.Outcome State Fault Refusal :=
  .next
    (if s.health.link = .listen then
      let s1 := elapseTo s.timers.round (3 * s.paUs) s
      if s1.line.dominant then { s1 with line := { s1.line with silenceWaits := true } } else lonePacer s1
    else s)

/-- ISOLATION_TIMER_EXPIRY: the isolation timer reaches 10 s without ADDRESS_CLASH (R56). -/
def execIsolationTimerExpiry (s : State) : Host.Outcome State Fault Refusal :=
  .next
    (if s.health.link = .isolated ∧ s.timers.isolation.running ∧ ¬ s.health.addressClash then
      enterListen (elapseTo s.timers.isolation Config.isolationUs s)
    else s)

end Sys2Proof.Machine
end

