-- ==== Sys2Proof/Machine/Reset.lean ====
section
/-! DEFINITION. Chapter 12: assertion and release of reset, the start sequence, and the commands POWER_ON,
SUPPLY_SAMPLE, SUPPLY_MONITOR_RESET, SUPPLY_MONITOR_RELEASE, RESET_PIN_LOW, RESET_PIN_HIGH, CHORD_RESET,
CHORD_RESET_RELEASE and SETTLE_TIMER. -/

namespace Sys2Proof.Machine

/-! ### Assertion (R184, R185) -/

/-- Every block in the state its chapter gives for a reset (R58, R73, R94, R112, R130, R146, R163, R171, R183, R185).
What is kept: the level on the wire, the settings, the trip history with LOCKOUT, and the two timers that run through a
reset. The commands that wait are no block. -/
def blocksAtReset (s : State) : State where
  pending := s.pending
  rst := s.rst
  line := { LineBlock.atReset with dominant := s.line.dominant }
  asm := .atReset
  health := .atReset
  meas := .atReset
  coll := .atReset
  zone := { Zone.atReset with settings := s.zone.settings }
  damper := .atReset
  handler := .atReset
  outdoor := { Outdoor.atReset with trips := s.outdoor.trips, lockout := s.outdoor.lockout }
  out := .atReset
  dir := .atReset
  timers := { Timers.atReset with supplyClock := s.timers.supplyClock, chordHold := s.timers.chordHold }

/-- The kind after an assertion: SUPPLY stays SUPPLY within one reset (R185). -/
def ResetBlock.kindAfter (asserted : ResetKind) (r : ResetBlock) : ResetKind :=
  if r.state = .asserted ∧ r.kind = .supply then .supply else asserted

/-- The reset block after an assertion of the kind `k` (R185); the straps are latched anew at the next start (R186). -/
def ResetBlock.assert (k : ResetKind) (r : ResetBlock) : ResetBlock :=
  { r with state := .asserted, kind := r.kindAfter k, address := 0, parameter := 0 }

/-- An assertion of reset of the kind `k`, by a source that already shows in the reset block (R185). -/
def assertReset (k : ResetKind) (s : State) : State := { blocksAtReset s with rst := s.rst.assert k }

/-! ### Release (R184 to R186) -/

/-- A source still asserts reset (R184). -/
def ResetBlock.held (r : ResetBlock) : Bool := r.powerOn || r.monitor || r.pin || r.chord

/-- What the kind decides at the release: a SUPPLY reset sets the settings to their defaults and clears LOCKOUT and the
trip history (R77, R163, R185). -/
def kindValues (s : State) : State :=
  match s.rst.kind with
  | .supply =>
    { s with
      zone := { s.zone with settings := .default }
      outdoor := { s.outdoor with trips := [], lockout := false } }
  | .pin => s

/-- What runs on the crystal from the release of reset: the settle timer, the round timer, the second tick, and the
period timers and blink clock of the output stages (R11, R164, R168, R170, R186; notes/assumptions/19). -/
def Timers.atRelease (t : Timers) : Timers :=
  { t with
    settle := .started
    round := .started
    second := .started
    pwmBlower := .started
    pwmBypass := .started
    pwmCompressor := .started
    bridge := .started
    blink := .started }

/-- The release of reset once no source asserts it: SETTLING begins (R184, R186). -/
def releaseReset (s : State) : State :=
  if s.rst.state = .asserted ∧ s.rst.held = false then
    { kindValues s with rst := { s.rst with state := .settling }, timers := s.timers.atRelease }
  else s

/-! ### The sources (R184) -/

/-- POWER_ON: supply is applied (R184). The RESET pin keeps its level. -/
def execPowerOn (s : State) : Host.Outcome State Fault Refusal :=
  .next
    (assertReset .supply
      { s with
        rst := { s.rst with powerOn := true, monitor := false, chord := false, lowCount := 0 }
        timers := { s.timers with supplyClock := .started, chordHold := .stopped } })

/-- The power-on source or the supply monitor asserts reset (R184). -/
def ResetBlock.supplyHeld (r : ResetBlock) : Bool := r.powerOn || r.monitor

/-- The supply monitor takes a sample of `mv` millivolts (R184). -/
def takeSupplySample (mv : Nat) (s : State) : State :=
  if s.rst.supplyHeld then
    if Config.supplyGoodMv ≤ mv then
      releaseReset { s with rst := { s.rst with powerOn := false, monitor := false, lowCount := 0 } }
    else s
  else if mv < Config.supplyLowMv then
    if 4 ≤ s.rst.lowCount + 1 then assertReset .supply { s with rst := { s.rst with monitor := true, lowCount := 4 } }
    else { s with rst := { s.rst with lowCount := s.rst.lowCount + 1 } }
  else { s with rst := { s.rst with lowCount := 0 } }

/-- The next supply sample, 16 ms after the one before (R184). -/
def supplySample (mv : Nat) (s : State) : State :=
  let s1 := elapseTo s.timers.supplyClock Config.supplySampleUs s
  takeSupplySample mv { s1 with timers := { s1.timers with supplyClock := .started } }

/-- SUPPLY_SAMPLE (R184). -/
def execSupplySample (mv : Nat) (s : State) : Host.Outcome State Fault Refusal := .next (supplySample mv s)

/-- SUPPLY_MONITOR_RESET: the fourth low sample in a row (R184; notes/assumptions/8). -/
def execSupplyMonitorReset (s : State) : Host.Outcome State Fault Refusal :=
  .next (if s.rst.supplyHeld = false ∧ s.rst.lowCount = 3 then supplySample 0 s else s)

/-- SUPPLY_MONITOR_RELEASE: the first sample that reads 3.0 V or more in a reset by supply (R184; notes/assumptions/8). -/
def execSupplyMonitorRelease (s : State) : Host.Outcome State Fault Refusal :=
  .next (if s.rst.supplyHeld then supplySample Config.supplyGoodMv s else s)

/-- RESET_PIN_LOW (R184, R185). -/
def execResetPinLow (s : State) : Host.Outcome State Fault Refusal :=
  .next (if s.rst.pin then s else assertReset .pin { s with rst := { s.rst with pin := true } })

/-- RESET_PIN_HIGH (R184, R186). -/
def execResetPinHigh (s : State) : Host.Outcome State Fault Refusal :=
  .next (if s.rst.pin then releaseReset { s with rst := { s.rst with pin := false } } else s)

/-- CHORD_RESET: the chord timer reaches 2.0 s (R82, R184). -/
def execChordReset (s : State) : Host.Outcome State Fault Refusal :=
  .next
    (if s.timers.chord.running then
      let s1 := elapseTo s.timers.chord Config.chordUs s
      assertReset .pin
        { s1 with rst := { s1.rst with chord := true }, timers := { s1.timers with chordHold := .started } }
    else s)

/-- CHORD_RESET_RELEASE: 16 ms after the chord's assertion (R184). Its timer then shows 0 (notes/assumptions/28). -/
def execChordResetRelease (s : State) : Host.Outcome State Fault Refusal :=
  .next
    (if s.rst.chord then
      let s1 := elapseTo s.timers.chordHold Config.chordHoldUs s
      releaseReset
        { s1 with rst := { s1.rst with chord := false }, timers := { s1.timers with chordHold := .stopped } }
    else s)

/-! ### The start sequence (R186, R187) -/

/-- The measurement block starts: both channels leave STOPPED for WAIT_EDGE (R72). -/
def startMeasurement (s : State) : State :=
  { s with meas := ⟨{ s.meas.a with state := .waitEdge }, { s.meas.b with state := .waitEdge }⟩ }

/-- What a role starts at the entry to LISTEN after start-up: a zone homes its damper, the others begin to sample their
trip input (R126, R167, R187). -/
def startRole (s : State) : State :=
  match s.role with
  | .zone => s.withMotor s.motor.startHoming
  | .handler => { s with timers := { s.timers with tripClock := .started } }
  | .outdoor => { s with timers := { s.timers with tripClock := .started } }
  | .absent => s

/-- Key sampling begins at the latch of a ZONE address, whether the check passes or not (R78, R186). -/
def startKeys (s : State) : State :=
  if s.role = .zone then { s with timers := { s.timers with keyClock := .started } } else s

/-- In a ZONE or HANDLER station LOCKOUT and the trip history are held clear (chapter 9), from the latching of the
straps on. -/
def clearForeignTrips (s : State) : State :=
  match s.role with
  | .zone => { s with outdoor := { s.outdoor with trips := [], lockout := false } }
  | .handler => { s with outdoor := { s.outdoor with trips := [], lockout := false } }
  | .outdoor => s
  | .absent => s

/-- The straps are latched and checked (R186), and on a pass the station enters LISTEN with the blocks that begin there
(R187). Two points are the model's choice: the settle timer, which R186 leaves at its 250 ms, is stopped at 0 (DESIGN
CHOICE, notes/assumptions/28), and the kind of the reset that is over stays as it was, where the worked example of
chapter 12 shows none (DESIGN CHOICE, notes/assumptions/29). -/
def latchStraps (address parameter : Nibble) (s : State) : State :=
  let pass := strapsPass address parameter
  let s1 :=
    startKeys
      (clearForeignTrips
        { s with
          rst :=
            { s.rst with
              address := address
              parameter := parameter
              state := if pass then .checked else .failed }
          timers := { s.timers with settle := .stopped } })
  if pass then startRole (startMeasurement (enterListen s1)) else s1

/-- SETTLE_TIMER: the settle timer reaches 250 ms with these levels at the strap pins (R186). -/
def execSettleTimer (address parameter : Nibble) (s : State) : Host.Outcome State Fault Refusal :=
  .next
    (if s.rst.state = .settling then
      latchStraps address parameter (elapseTo s.timers.settle Config.settleUs s)
    else s)

end Sys2Proof.Machine
end

