-- ==== Sys2Proof/Machine/Outputs.lean ====
section
/-! DEFINITION. Chapter 10: the commands of the output stages and the trip input: PWM_PERIOD_END, HBRIDGE_PERIOD_START,
SWITCHED_INTERVAL_END, BLINK_CLOCK, TRIP_INPUT_SAMPLE and TRIP_FILTER_CHANGE. -/

namespace Sys2Proof.Machine

/-! ### PWM channels (R164) -/

/-- The period timer of a channel (R164). -/
def State.pwmTimer (s : State) : PwmChannel → Timer
  | .blower => s.timers.pwmBlower
  | .bypass => s.timers.pwmBypass
  | .compressor => s.timers.pwmCompressor

/-- A PWM channel. -/
def Output.pwm (o : Output) : PwmChannel → Pwm
  | .blower => o.blower
  | .bypass => o.bypass
  | .compressor => o.compressor

/-- The period of a channel ends: a pending staged duty is applied, and the next period begins (R164). -/
def endPeriod (c : PwmChannel) (s : State) : State :=
  match c with
  | .blower =>
    { s with
      out := { s.out with blower := s.out.blower.periodEnd }
      timers := { s.timers with pwmBlower := .started } }
  | .bypass =>
    { s with
      out := { s.out with bypass := s.out.bypass.periodEnd }
      timers := { s.timers with pwmBypass := .started } }
  | .compressor =>
    { s with
      out := { s.out with compressor := s.out.compressor.periodEnd }
      timers := { s.timers with pwmCompressor := .started } }

/-- PWM_PERIOD_END (R164). -/
def execPwmPeriodEnd (c : PwmChannel) (s : State) : Host.Outcome State Fault Refusal :=
  .next (if (s.pwmTimer c).running then endPeriod c (elapseTo (s.pwmTimer c) Config.periodUs s) else s)

/-! ### The H-bridge stage (R168) -/

/-- HBRIDGE_PERIOD_START (R168). -/
def execHbridgePeriodStart (s : State) : Host.Outcome State Fault Refusal :=
  .next
    (if s.timers.bridge.running then
      let s1 := elapseTo s.timers.bridge Config.periodUs s
      { s1 with
        out := { s1.out with bridge := s1.out.bridge.periodStart s1.timers.bridgeDead }
        timers := { s1.timers with bridge := .started } }
    else s)

/-! ### Switched outputs (R169) -/

/-- The interval timer of a switched output (R169). -/
def State.intervalTimer (s : State) : Load → Timer
  | .valve => s.timers.valve
  | .fan => s.timers.fan
  | .heater => s.timers.heater

/-- A switched output. -/
def Output.switched (o : Output) : Load → Switched
  | .valve => o.valve
  | .fan => o.fan
  | .heater => o.heater

/-- The interval of an output ends: a held request is applied, and the timer restarts when the level changed (R169). -/
def endInterval (l : Load) (s : State) : State :=
  match l with
  | .valve =>
    { s with
      out := { s.out with valve := s.out.valve.intervalEnd }
      timers := { s.timers with valve := intervalAfter s.out.valve s.out.valve.intervalEnd s.timers.valve } }
  | .fan =>
    { s with
      out := { s.out with fan := s.out.fan.intervalEnd }
      timers := { s.timers with fan := intervalAfter s.out.fan s.out.fan.intervalEnd s.timers.fan } }
  | .heater =>
    { s with
      out := { s.out with heater := s.out.heater.intervalEnd }
      timers := { s.timers with heater := intervalAfter s.out.heater s.out.heater.intervalEnd s.timers.heater } }

/-- SWITCHED_INTERVAL_END: the interval timer reaches 2 s (R169). -/
def execSwitchedIntervalEnd (l : Load) (s : State) : Host.Outcome State Fault Refusal :=
  .next (endInterval l (elapseTo (s.intervalTimer l) Config.intervalUs s))

/-! ### The blink clock (R170) -/

/-- BLINK_CLOCK: a half period of the blink clock ends (R170). -/
def execBlinkClock (s : State) : Host.Outcome State Fault Refusal :=
  .next
    (if s.timers.blink.running then
      let s1 := elapseTo s.timers.blink Config.blinkUs s
      { s1 with
        out := { s1.out with blinkLit := !s1.out.blinkLit }
        timers := { s1.timers with blink := .started } }
    else s)

/-! ### The trip input (R167) -/

/-- The level at the pin shows the input active, by the role: low for the float switch, high for the high-pressure
switch (R143, R159, R167). -/
def activeAt (r : Role) (high : Bool) : Bool :=
  match r with
  | .handler => !high
  | .outdoor => high
  | .zone => false
  | .absent => false

/-- The users of the filtered level take its change: on the outdoor station a change to active is a trip, and both
changes reach the compressor machine and the fan (R153, R155, R159, R166, R167). -/
def tripChanged (s : State) : State :=
  match s.role with
  | .outdoor =>
    s.withPlant (if s.out.tripActive then s.plant.trip else s.plant.untrip).requestFan
  | .handler => s
  | .zone => s
  | .absent => s

/-- The filter takes one sample of the trip input (R167). -/
def takeTripSample (active : Bool) (s : State) : State :=
  if active = s.out.tripActive then { s with out := { s.out with tripRun := 0 } }
  else if 8 ≤ s.out.tripRun + 1 then tripChanged { s with out := { s.out with tripActive := active, tripRun := 0 } }
  else { s with out := { s.out with tripRun := s.out.tripRun + 1 } }

/-- The next trip sample, 1 ms after the one before (R167). -/
def tripSample (active : Bool) (s : State) : State :=
  let s1 := elapseTo s.timers.tripClock Config.tripSampleUs s
  takeTripSample active { s1 with timers := { s1.timers with tripClock := .started } }

/-- TRIP_INPUT_SAMPLE (R167). -/
def execTripInputSample (high : Bool) (s : State) : Host.Outcome State Fault Refusal :=
  .next (if s.timers.tripClock.running then tripSample (activeAt s.role high) s else s)

/-- TRIP_FILTER_CHANGE: the eighth sample in a row at the other level (R167; notes/assumptions/8). -/
def execTripFilterChange (s : State) : Host.Outcome State Fault Refusal :=
  .next
    (if s.timers.tripClock.running ∧ s.out.tripRun = 7 then tripSample (!s.out.tripActive) s else s)

end Sys2Proof.Machine
end

