-- ==== Sys2Proof/Machine/Dispatch.lean ====
section
/-! DEFINITION. The dispatch of commands to their meanings, one arm per constructor of Instr. -/

namespace Sys2Proof.Machine

def exec (i : Instr) (s : State) : Host.Outcome State Fault Refusal :=
  match i with
  | .powerOn => Sys2Proof.Machine.execPowerOn s
  | .supplyMonitorReset => Sys2Proof.Machine.execSupplyMonitorReset s
  | .supplyMonitorRelease => Sys2Proof.Machine.execSupplyMonitorRelease s
  | .resetPinLow => Sys2Proof.Machine.execResetPinLow s
  | .resetPinHigh => Sys2Proof.Machine.execResetPinHigh s
  | .chordResetRelease => Sys2Proof.Machine.execChordResetRelease s
  | .settleTimer address parameter => Sys2Proof.Machine.execSettleTimer address parameter s
  | .roundTimerPa => Sys2Proof.Machine.execRoundTimerPa s
  | .syncMarkRelease => Sys2Proof.Machine.execSyncMarkRelease s
  | .noiseRunEnd bits => Sys2Proof.Machine.execNoiseRunEnd bits s
  | .syncRecognised w n => Sys2Proof.Machine.execSyncRecognised w n s
  | .roundStart => Sys2Proof.Machine.execRoundStart s
  | .roundEnd w => Sys2Proof.Machine.execRoundEnd w s
  | .missingRound => Sys2Proof.Machine.execMissingRound s
  | .silenceEvent => Sys2Proof.Machine.execSilenceEvent s
  | .isolationTimerExpiry => Sys2Proof.Machine.execIsolationTimerExpiry s
  | .setCool source dest arg => Sys2Proof.Machine.execSetCool source dest arg s
  | .setHeat source dest arg => Sys2Proof.Machine.execSetHeat source dest arg s
  | .setHumid source dest arg => Sys2Proof.Machine.execSetHumid source dest arg s
  | .zoneSet source dest arg => Sys2Proof.Machine.execZoneSet source dest arg s
  | .read source dest arg => Sys2Proof.Machine.execRead source dest arg s
  | .testDamper source dest arg => Sys2Proof.Machine.execTestDamper source dest arg s
  | .testBlower source dest arg => Sys2Proof.Machine.execTestBlower source dest arg s
  | .testSpeed source dest arg => Sys2Proof.Machine.execTestSpeed source dest arg s
  | .forceDefrost source dest arg => Sys2Proof.Machine.execForceDefrost source dest arg s
  | .corruptCheck source dest arg => Sys2Proof.Machine.execCorruptCheck source dest arg s
  | .muteCount source dest arg => Sys2Proof.Machine.execMuteCount source dest arg s
  | .clearTrip source dest arg => Sys2Proof.Machine.execClearTrip source dest arg s
  | .normal source dest arg => Sys2Proof.Machine.execNormal source dest arg s
  | .secondTick => Sys2Proof.Machine.execSecondTick s
  | .ringEmptied ch => Sys2Proof.Machine.execRingEmptied ch s
  | .captureRisingEdge ch ticks => Sys2Proof.Machine.execCaptureRisingEdge ch ticks s
  | .captureFallingEdge ch ticks => Sys2Proof.Machine.execCaptureFallingEdge ch ticks s
  | .periodAbandoned ch => Sys2Proof.Machine.execPeriodAbandoned ch s
  | .keyPress k x => Sys2Proof.Machine.execKeyPress k x s
  | .keyRelease k x => Sys2Proof.Machine.execKeyRelease k x s
  | .modeShortPress x => Sys2Proof.Machine.execModeShortPress x s
  | .modeLongPress => Sys2Proof.Machine.execModeLongPress s
  | .chordReset => Sys2Proof.Machine.execChordReset s
  | .damperPulse => Sys2Proof.Machine.execDamperPulse s
  | .stall => Sys2Proof.Machine.execStall s
  | .pauseEnd => Sys2Proof.Machine.execPauseEnd s
  | .retryEnd => Sys2Proof.Machine.execRetryEnd s
  | .homingTimeout => Sys2Proof.Machine.execHomingTimeout s
  | .coldBlowHoldEnd => Sys2Proof.Machine.execColdBlowHoldEnd s
  | .coilFrostChange => Sys2Proof.Machine.execCoilFrostChange s
  | .supplyHotChange => Sys2Proof.Machine.execSupplyHotChange s
  | .auxHeatOn => Sys2Proof.Machine.execAuxHeatOn s
  | .normalStop => Sys2Proof.Machine.execNormalStop s
  | .frostStop => Sys2Proof.Machine.execFrostStop s
  | .minOffEnd => Sys2Proof.Machine.execMinOffEnd s
  | .defrostEntry => Sys2Proof.Machine.execDefrostEntry s
  | .defrostEnd => Sys2Proof.Machine.execDefrostEnd s
  | .dripEnd => Sys2Proof.Machine.execDripEnd s
  | .tripAgeExpiry => Sys2Proof.Machine.execTripAgeExpiry s
  | .tripFilterChange => Sys2Proof.Machine.execTripFilterChange s
  | .pwmPeriodEnd c => Sys2Proof.Machine.execPwmPeriodEnd c s
  | .hbridgePeriodStart => Sys2Proof.Machine.execHbridgePeriodStart s
  | .switchedIntervalEnd l => Sys2Proof.Machine.execSwitchedIntervalEnd l s
  | .blinkClock => Sys2Proof.Machine.execBlinkClock s
  | .dominantRunLeadingEdge => Sys2Proof.Machine.execDominantRunLeadingEdge s
  | .supplySample mv => Sys2Proof.Machine.execSupplySample mv s
  | .tripInputSample high => Sys2Proof.Machine.execTripInputSample high s
  | .keySample x => Sys2Proof.Machine.execKeySample x s
  | .modePressRecognition x => Sys2Proof.Machine.execModePressRecognition x s

end Sys2Proof.Machine
end

