-- ==== Sys2Proof/Safety.lean ====
section
/-! DEFINITION. What stays true of a station through every command: the invariants that the claims speak of. -/

namespace Sys2Proof.Machine

/-- The ranges of the settings and the gap rule (R74). -/
def Settings.Sound (z : Settings) : Prop :=
  (180 ≤ z.sc ∧ z.sc ≤ 320) ∧ (100 ≤ z.sh ∧ z.sh ≤ 280) ∧ 20 ≤ z.sc - z.sh ∧ (400 ≤ z.hl ∧ z.hl ≤ 700)

/-- A station that drives is JOINED or HOLDOVER; the receive side is in IDLE in QUIET (R2); a station is in QUIET
unless its straps passed (R49, R187); ADDRESS_CLASH holds it in ISOLATED (R48); an image is held exactly with drive
permission (R15); and the clash mark is clear until a window ends (R47, notes/assumptions/7). -/
def LinkSound (s : State) : Prop :=
  (s.line.permission = true ∨ s.drivingMark = true → s.mayDrive = true) ∧
    (s.health.link = .quiet → s.line.rx = .idle) ∧
    (s.rst.state = .checked ↔ s.health.link ≠ .quiet) ∧
    (s.health.addressClash = true → s.health.link = .isolated) ∧
    (s.asm.image.isSome = true ↔ s.line.permission = true) ∧
    (s.line.rx.inRound = true → s.health.clashMark = false)

/-- The counts of the acceptance block lie in their ranges (R44, R45, R47, R49, R51). -/
def Health.CountsSound (h : Health) : Prop :=
  h.nearEnd ≤ 255 ∧ h.farEnd ≤ 255 ∧ h.badRun < 30 ∧ (h.link = .joined → h.badRun < 4) ∧ h.joining < 8 ∧
    h.clashCount ≤ 2

/-- The limits of a role test's argument (R128, R144, R161). -/
def testArgSound (r : Role) (arg : Byte) : Prop :=
  match r with
  | .zone => arg.toNat ≤ 100
  | .handler => arg.toNat = 0 ∨ (75 ≤ arg.toNat ∧ arg.toNat ≤ 250)
  | .outdoor => arg.toNat = 0 ∨ (30 ≤ arg.toNat ∧ arg.toNat ≤ 100)
  | .absent => False

/-- The directive unit: at most 4 entries in the queue, each short of its third win and its sixteenth round (R173,
R174); queue and test set empty in QUIET, LISTEN and ISOLATED (R175, R181); a role test within its limits (R128, R144,
R161); an executed mark only at a count of 3 (R176, R177). -/
def UnitSound (s : State) : Prop :=
  s.dir.queue.length ≤ 4 ∧
    (∀ e ∈ s.dir.queue, e.wins < 3 ∧ e.age < 16) ∧
    (s.mayDrive = false → s.dir.queue = [] ∧ s.dir.tests = .cleared) ∧
    (∀ arg, s.dir.tests.role = some arg → testArgSound s.role arg) ∧
    (s.dir.tracker.count ≤ 3 ∧ (s.dir.tracker.executed.isSome = true → s.dir.tracker.count = 3))

/-- The rings and miss counts of a channel (R67, R68). -/
def CaptureChannel.Sound (c : CaptureChannel) : Prop :=
  c.ring.length ≤ 8 ∧ c.misses ≤ 3 ∧ (c.misses = 3 → c.ring = []) ∧ ∀ v ∈ c.ring, v ≤ 1500

/-- A demand in the range of its call (R85). -/
def demandSound (call : Call) (d : Nat) : Prop :=
  match call with
  | .none => d = 0
  | .cool => 1 ≤ d ∧ d ≤ 63
  | .heat => 1 ≤ d ∧ d ≤ 63
  | .dry => 4 ≤ d ∧ d ≤ 32

/-- The accumulator and the demand of a zone, and no service without a call (R85 to R89). -/
def Zone.Sound (z : Zone) : Prop :=
  z.a ≤ 1008 ∧ demandSound z.call z.d ∧ (z.call = .none → z.served = false)

/-- The position counter, the targets and the stall count (R119, R120, R125); a damper fault stands in FAULT, and a machine
in HOMING, or in the PAUSE before it, has its homing mark clear (R126, R127). -/
def Damper.Sound (d : Damper) : Prop :=
  d.position ≤ 400 ∧ d.target ≤ 400 ∧ d.pending ≤ 400 ∧ d.percent ≤ 100 ∧ d.stalls ≤ 3 ∧
    (d.fault = true ↔ d.machine = .fault) ∧
    (d.machine = .homing ∨ d.machine = .pause ∧ d.homingPause = true → d.homed = false)

/-- The drive that the damper machine asks of the bridge in each state (R120). -/
def Damper.drive (d : Damper) : Option Direction :=
  match d.machine with
  | .homing => some .closing
  | .opening => some .opening
  | .closing => some .closing
  | .parked => none
  | .hold => none
  | .pause => none
  | .retry => none
  | .fault => none

/-- The damper machine with its bridge: the machine stands PARKED until the straps have passed (R120, R187), the bridge
is asked for the drive of the machine's state, a drive goes in the direction of the last drive (R120), and only the half
asked for conducts (R168). -/
def DamperSound (s : State) : Prop :=
  s.damper.Sound ∧
    (s.rst.state ≠ .checked → s.damper.machine = .parked) ∧
    s.out.bridge.asked = s.damper.drive ∧
    (∀ h, s.damper.drive = some h → s.damper.lastDrive = h) ∧
    (∀ h, s.out.bridge.conducting = some h → s.out.bridge.asked = some h)

/-- A capacity target is 0 or lies within 30..100 (R147). -/
def capacitySound (c : Nat) : Prop := c = 0 ∨ (30 ≤ c ∧ c ≤ 100)

/-- The compressor: S within 30..100 in the running states and 0 in the others, the minimum off time behind it in
STOPPED, a defrost only while it runs (R147 to R149, R153, R157), S at 0 under LOCKOUT and an active trip input (R153),
and a running state in a started OUTDOOR station only (R149, R187). -/
def CompressorSound (s : State) : Prop :=
  (s.outdoor.comp.isRunning = true → 30 ≤ s.outdoor.speed ∧ s.outdoor.speed ≤ 100) ∧
    (s.outdoor.comp.isRunning = false → s.outdoor.speed = 0 ∧ s.outdoor.defrost = .normal) ∧
    (s.outdoor.comp = .stopped → 180 ≤ s.outdoor.offTimer) ∧
    capacitySound s.outdoor.ct ∧ capacitySound s.outdoor.pendingCt ∧
    (s.outdoor.lockout = true ∨ s.out.tripActive = true → s.outdoor.speed = 0) ∧
    (s.role ≠ .outdoor ∨ s.rst.state ≠ .checked → s.outdoor.comp.isRunning = false)

/-- The compressor channel is at its stopped level while the compressor stands still, and while the trip hold mark is
set (R165, R166). -/
def ChannelSound (s : State) : Prop :=
  (s.outdoor.comp.isRunning = false → s.out.compressor = .atReset) ∧
    (s.out.tripHold = true → s.outdoor.comp.isRunning = false)

/-- A PWM channel's duties in permille (R164). -/
def Pwm.Sound (c : Pwm) : Prop := c.applied ≤ 1000 ∧ c.staged ≤ 1000

/-- The handler's percentages and permilles (R134, R136, R138 to R141). -/
def Handler.Sound (h : Handler) : Prop :=
  h.pendingDuty ≤ 1000 ∧ h.duty ≤ 1000 ∧ h.pendingBypass ≤ 100 ∧ h.bypass ≤ 100 ∧
    h.holdCount < 90 ∧ h.frostRun < 30 ∧ h.hotRun < 10 ∧ h.auxRun < 600

/-- The collective state and the proposal fit the STATE field (R25, R95). -/
def CollectiveBlock.Sound (c : CollectiveBlock) : Prop := c.state.hold ≤ 511 ∧ c.proposal.hold ≤ 511

/-- What every kind of reset leaves in the blocks of the station `t` that was in `s` when the reset was asserted (R6, R22,
R58, R73, R94, R112, R130, R146, R163, R171, R183), the round timer cleared (R11), the stall, pause, retry and homing
timers and the settle timer stopped (R130, R186); settings, trip history and LOCKOUT are kept until the release decides on
them (R77, R163). -/
def ResetValues (s t : State) : Prop :=
  (t.line.rx = .idle ∧ t.line.permission = false ∧ t.drivingMark = false ∧ t.timers.round.us = 0) ∧
    (t.asm.index = 15 ∧ t.asm.image = none) ∧
    (t.health.link = .quiet ∧ t.health.view = .zero ∧ t.health.candidate = none ∧ t.health.lastAccepted = false ∧
      t.health.disagree = false ∧ t.health.nearEnd = 0 ∧ t.health.farEnd = 0 ∧ t.health.badRun = 0 ∧
      t.health.joining = 0 ∧ t.health.plant = .cleared ∧ t.health.clashMark = false ∧ t.health.clashCount = 0 ∧
      t.health.addressClash = false ∧ t.timers.isolation.running = false) ∧
    (∀ ch, (t.capture ch).c = ⟨.stopped, 0, 0, false, [], 0⟩ ∧ (t.capture ch).period.us = 0 ∧ (t.capture ch).high.us = 0) ∧
    (t.coll.state = ⟨.off, 0⟩ ∧ t.coll.proposal = ⟨.off, 0⟩) ∧
    (t.zone.settings = s.zone.settings ∧ t.zone.call = .none ∧ t.zone.a = 0 ∧ t.zone.d = 0 ∧ t.zone.served = false ∧
      t.zone.up.state = .blocked ∧ t.zone.down.state = .blocked ∧ t.zone.mode.state = .blocked ∧
      t.timers.modeHold.us = 0 ∧ t.timers.chord.us = 0) ∧
    (t.damper.request = 0 ∧ t.damper.grant = 0 ∧ t.damper.pending = 400 ∧ t.damper.target = 400 ∧
      t.damper.machine = .parked ∧ t.damper.lastDrive = .closing ∧ t.damper.position = 400 ∧ t.damper.stalls = 0 ∧
      t.damper.fault = false ∧ t.damper.homed = false ∧ t.timers.stall.running = false ∧
      t.timers.motorRest.running = false ∧ t.timers.retry.running = false ∧ t.timers.homing.running = false) ∧
    t.timers.settle.running = false ∧
    (t.handler = ⟨0, 0, 0, 100, 100, false, 0, false, false, 0, false, 0, false, 0⟩) ∧
    (t.outdoor = ⟨0, 0, .minOff, 0, none, 0, 0, 0, .normal, 0, 0, 0, s.outdoor.trips, s.outdoor.lockout⟩) ∧
    ((∀ c, t.out.pwm c = ⟨0, 0, false⟩) ∧ t.out.tripHold = false ∧ t.out.bridge.asked = none ∧
      t.out.bridge.conducting = none ∧
      (∀ l, t.out.switched l = ⟨false, none⟩ ∧ (t.intervalTimer l).us = Config.intervalUs) ∧
      t.out.tripActive = false ∧ t.out.tripRun = 0) ∧
    (t.dir.queue = [] ∧ t.dir.tracker = ⟨none, 0, none⟩ ∧ t.dir.reply = none ∧ t.dir.tests = ⟨none, false, false⟩)

/-! ### Decisions, as the commands bring them (R37) -/

/-- ROUND_END of the window `w` brings an accepted decision: no framing error, and the check agrees (R36, R37). -/
def EndsAccepted (w : Window) (s : State) : Prop :=
  s.line.rx.inRound = true ∧ s.line.framing = false ∧ w.guards = 0 ∧ w.spacers = 0 ∧
    computedCheck w.data = (viewOf w.data).check

/-- The command brings a bad decision (R37): a round end with a framing error or a check that disagrees, a sync that cuts a
window short, or a missing round. -/
def EndsBad (c : Instr) (s : State) : Prop :=
  match c with
  | .roundEnd w =>
    s.line.rx.inRound = true ∧
      (s.line.framing = true ∨ w.guards ≠ 0 ∨ w.spacers ≠ 0 ∨ computedCheck w.data ≠ (viewOf w.data).check)
  | .syncRecognised _ _ => s.receives = true ∧ s.line.dominant = true ∧ s.line.rx.inRound = true
  | .missingRound => s.mayDrive = true
  | _ => False

/-- A bit of the window `w` reaches the clash detector of a station that drives `im` in it: read dominant where the
station leaves it recessive, in its own SHARE slot, its own SLOW slot, or REPLY while it is the responder (R19, R47). -/
def ClashAt (w : Window) (s : State) (im : Image) : Prop :=
  let a := s.rst.address.toNat
  let wire := viewOf w.data
  let mine := im.driven s.rst.address w.data
  slotByte wire.share a &&& ~~~slotByte mine.share a ≠ 0 ∨ slotByte wire.slow a &&& ~~~slotByte mine.slow a ≠ 0 ∨
    (im.reply ≠ none ∧ wire.reply &&& ~~~mine.reply ≠ 0)

/-- ROUND_END of the window `w` brings an accepted decision that is handed on: in JOINED or HOLDOVER, without a second
clash in a row, or as the eighth accepted round in LISTEN (R39, R48, R49). -/
def HandedOn (w : Window) (s : State) : Prop :=
  EndsAccepted w s ∧ s.health.clashMark = false ∧
    ((s.mayDrive = true ∧
        (s.line.permission = true → ∀ im, s.asm.image = some im → ClashAt w s im → s.health.clashCount = 0)) ∨
      (s.health.link = .listen ∧ s.line.permission = false ∧ 7 ≤ s.health.joining))

/-- The station as its directive unit finds it in an accepted round that is handed on: the window read and decided, the
station JOINED, and the wire STATE adopted (R37, R39, R49, R53, R105, R177). -/
def adopted (w : Window) (s : State) : State :=
  let s1 := elapseTo s.timers.round (Config.bitsUs Config.roundBits) s
  let v := viewOf w.data
  let s2 :=
    decideRound .accepted v
      { s1 with
        line := { s1.line.read s.rst.address s.asm.image 384 384 w.data with rx := .idle, framing := false }
        health := s1.health.read s.rst.address s.asm.image 384 w.data }
  let s3 : State :=
    if s.health.link = .listen then
      { s2 with health := { s2.health.join with joining := 0 }, asm := { s2.asm with index := v.idx } }
    else { s2 with health := s2.health.join }
  { s3 with coll := s3.coll.round v s3.health.plant }

/-! ### The damper machine's comparison (R121, R122) -/

/-- The damper machine's state after a comparison of the position counter with the target in effect: `d` is the target less
the position, `last` the direction of the last drive, `rested` says that the motor has been stopped for 200 ms, and
`homing` that a PAUSE leads into homing (R121, R122). -/
def comparedState (x : DamperState) (last : Direction) (rested homing : Bool) (d : Int) : DamperState :=
  let near := -2 ≤ d ∧ d ≤ 2
  match x with
  | .hold =>
    if near then .hold
    else if 2 < d then (if last = .opening ∨ rested = true then .opening else .pause)
    else (if last = .closing ∨ rested = true then .closing else .pause)
  | .opening => if near then .hold else if 2 < d then .opening else .pause
  | .closing => if near then .hold else if d < -2 then .closing else .pause
  | .pause =>
    if homing = true then .pause
    else if near then .hold
    else if 2 < d then (if last = .opening then .opening else .pause)
    else (if last = .closing then .closing else .pause)
  | .parked => .parked
  | .homing => .homing
  | .retry => .retry
  | .fault => .fault

/-- From `s` to `t` the damper machine has compared its position with the target in effect, which is `d` above it: its state,
the direction of the last drive, the stall count, which returns to 0 on entering HOLD, the drive asked of the bridge, and
the record of when the motor last stopped (R120 to R122, R125; notes/assumptions/28). -/
def DamperCompared (d : Int) (s t : State) : Prop :=
  t.damper.machine =
      comparedState s.damper.machine s.damper.lastDrive (decide (200000 ≤ s.timers.motorRest.us)) s.damper.homingPause d ∧
    t.damper.lastDrive =
      (match t.damper.machine with
      | .opening => .opening
      | .closing => .closing
      | _ => s.damper.lastDrive) ∧
    (t.damper.machine = .hold → s.damper.machine ≠ .hold → t.damper.stalls = 0) ∧
    (t.damper.machine ≠ .hold → t.damper.stalls = s.damper.stalls) ∧
    t.damper.fault = s.damper.fault ∧ t.damper.homed = s.damper.homed ∧
    t.out.bridge.asked = t.damper.drive ∧
    t.timers.motorRest =
      (if s.damper.machine.driving = true ∧ t.damper.machine.driving = false then ⟨true, 0⟩
      else if s.damper.machine.driving = false ∧ t.damper.machine.driving = true then ⟨false, 0⟩
      else s.timers.motorRest)

/-! ### The entry to ISOLATED (R55) -/

/-- The station at the moment of the decision that the command brings: the round timer at 482 bit times or at 2 × Pa, or the
run in progress at 12 bit times (R5, R8, R13; notes/assumptions/2). -/
def atDecision (c : Instr) (s : State) : State :=
  match c with
  | .roundEnd _ => elapseTo s.timers.round (Config.bitsUs Config.roundBits) s
  | .syncRecognised _ _ => elapseTo s.timers.run (Config.bitsUs Config.syncBits) s
  | .missingRound => elapseTo s.timers.round (2 * s.paUs) s
  | _ => s

/-- A zone's safe state (R55, R115, R117, R119, R121): request and grant 0, both targets at 400 with the position p of 100 %
(notes/assumptions/16), and a target in effect that changes is compared with the position at once, with the stall timer
of R123 (notes/assumptions/28). -/
def ZoneAtRest (u t : State) : Prop :=
  (t.damper.request = 0 ∧ t.damper.grant = 0 ∧ t.damper.percent = 100 ∧ t.damper.pending = 400 ∧ t.damper.target = 400 ∧
      t.damper.position = u.damper.position ∧ { t.out with bridge := u.out.bridge } = u.out) ∧
    (u.damper.target = 400 →
      t.damper = { u.damper with request := 0, grant := 0, percent := 100, pending := 400 } ∧ t.out = u.out) ∧
    (u.damper.target ≠ 400 → DamperSound u →
      DamperCompared (400 - u.damper.position) u t ∧
        t.timers.stall =
          (if t.damper.machine = u.damper.machine then u.timers.stall
          else if t.damper.machine.driving = true then ⟨true, 0⟩
          else if u.damper.machine.driving = true then ⟨false, 0⟩
          else u.timers.stall))

/-- The handler's safe state (R55, R145): Fb and both blower duties 0, the bypass at 100 %, both staged at their channels,
the cold-blow hold ended with its record cleared and its count at 0 (notes/assumptions/27), and the auxiliary heat machine
OFF with its count at 0 and its output requested off under its interval (R169; notes/assumptions/25). The watch flags are kept. -/
def HandlerAtRest (u t : State) : Prop :=
  t.handler =
      { u.handler with
        fb := 0, pendingDuty := 0, duty := 0, pendingBypass := 100, bypass := 100, holdActive := false, holdCount := 0
        compRecord := false, auxOn := false, auxRun := 0 } ∧
    t.out =
      { u.out with
        blower := ⟨u.out.blower.applied, 0, true⟩, bypass := ⟨u.out.bypass.applied, 1000, true⟩
        heater := u.out.heater.request false u.timers.heater.us } ∧
    t.timers.heater = (if t.out.heater.on = u.out.heater.on then u.timers.heater else ⟨true, 0⟩)

/-- The outdoor station's safe state (R55, R152, R153, R162): both targets 0, a compressor that runs stopped into MIN_OFF
with the minimum off timer from 0 and its channel at its stopped level, the defrost state NORMAL with the run accumulator
kept (the phase timer at 0: notes/assumptions/28), the fan requested off under its interval (R169;
notes/assumptions/25), and the valve as it was. -/
def OutdoorAtRest (u t : State) : Prop :=
  let o := { u.outdoor with pendingCt := 0, ct := 0, defrost := .normal, phase := 0 }
  let out := { u.out with fan := u.out.fan.request false u.timers.fan.us }
  (if u.outdoor.comp.isRunning = true then
    t.outdoor = { o with comp := .minOff, speed := 0, side := none, runTimer := 0, offTimer := 0, frostStop := 0 } ∧
      t.out = { out with compressor := ⟨0, 0, false⟩ }
  else t.outdoor = o ∧ t.out = out) ∧
    t.timers.fan = (if t.out.fan.on = u.out.fan.on then u.timers.fan else ⟨true, 0⟩)

/-- The station that was in `u` at the moment of a decision has entered ISOLATED in `t`, whatever the cause (R55): the line
released, DISAGREE and the consecutive-bad count cleared, (OFF, 0), the tests released, the queue emptied, a reply
discarded (R178), the zone not served (R86), and the role block in its safe state. -/
def EntersIsolated (u t : State) : Prop :=
  (t.health.link = .isolated ∧ t.health.disagree = false ∧ t.health.badRun = 0 ∧ t.line.permission = false ∧
      t.asm.image = none ∧ t.drivingMark = false) ∧
    t.coll = ⟨⟨.off, 0⟩, ⟨.off, 0⟩⟩ ∧
    (t.dir.queue = [] ∧ t.dir.reply = none ∧ t.dir.tests = ⟨none, false, false⟩ ∧ t.dir.tracker = u.dir.tracker) ∧
    t.zone = { u.zone with served := false } ∧
    (u.role = .zone → ZoneAtRest u t) ∧ (u.role ≠ .zone → t.damper = u.damper) ∧
    (u.role = .handler → HandlerAtRest u t) ∧ (u.role ≠ .handler → t.handler = u.handler) ∧
    (u.role = .outdoor → OutdoorAtRest u t) ∧ (u.role ≠ .outdoor → t.outdoor = u.outdoor) ∧
    t.meas = u.meas ∧ t.rst = u.rst

/-! ### Executions of directives (R172, R177, R178) -/

/-- The window `w` carries the third reception of the directive `d`, which the station has not executed and which is
addressed to it (R176, R177). -/
def ThirdReception (d : Directive) (w : Window) (s : State) : Prop :=
  unpackDirective (viewOf w.data).directive = some d ∧ s.dir.tracker.last = some d ∧ 2 ≤ s.dir.tracker.count ∧
    s.dir.tracker.executed = none ∧ (d.dest = s.rst.address ∨ d.dest = 15)

/-- The command that is the execution of a directive; none for a code that is not in the table of R179
(notes/assumptions/9). -/
def directiveRow (d : Directive) : Option Instr :=
  if d.code = 0x01 then some (.setCool d.source d.dest d.arg)
  else if d.code = 0x02 then some (.setHeat d.source d.dest d.arg)
  else if d.code = 0x03 then some (.setHumid d.source d.dest d.arg)
  else if d.code = 0x04 then some (.zoneSet d.source d.dest d.arg)
  else if d.code = 0x10 then some (.read d.source d.dest d.arg)
  else if d.code = 0x20 then some (.testDamper d.source d.dest d.arg)
  else if d.code = 0x21 then some (.testBlower d.source d.dest d.arg)
  else if d.code = 0x22 then some (.testSpeed d.source d.dest d.arg)
  else if d.code = 0x23 then some (.forceDefrost d.source d.dest d.arg)
  else if d.code = 0x30 then some (.corruptCheck d.source d.dest d.arg)
  else if d.code = 0x31 then some (.muteCount d.source d.dest d.arg)
  else if d.code = 0x3E then some (.clearTrip d.source d.dest d.arg)
  else if d.code = 0x3F then some (.normal d.source d.dest d.arg)
  else none

/-- A JOINED station is addressed by a directive of `source` to `dest` (R172, R177). -/
def Heard (source dest : Nibble) (s : State) : Prop :=
  s.health.link = .joined ∧ source ≠ 15 ∧ (dest = s.rst.address ∨ dest = 15)

/-- From `s` to `t` the directive unit has executed `d` once, DONE with `data`: the tracker stands at 3 with the outcome, the
reply is owed for a unicast, and the queue is as it was (R177, R178). -/
def ExecutedDone (d : Directive) (data : Byte) (s t : State) : Prop :=
  t.dir.tracker = ⟨some d, 3, some ⟨true, data⟩⟩ ∧
    t.dir.reply = (if d.dest = s.rst.address then some ⟨2, data⟩ else none) ∧ t.dir.queue = s.dir.queue

/-- From `s` to `t` the directive unit has refused `d`: UNABLE with the argument, and nothing but the tracker and the reply
changed (R177, R178). -/
def ExecutedUnable (d : Directive) (s t : State) : Prop :=
  t.dir.tracker = ⟨some d, 3, some ⟨false, d.arg⟩⟩ ∧
    t.dir.reply = (if d.dest = s.rst.address then some ⟨3, d.arg⟩ else none) ∧
    t.dir.queue = s.dir.queue ∧ t.dir.tests = s.dir.tests ∧ { t with dir := s.dir } = s

/-! ### Second ticks (R62, R72) -/

/-- The second tick finds the blocks at work: its clock runs, and the station has entered LISTEN since its reset (R62,
R72). -/
def Ticking (s : State) : Prop := s.timers.second.running = true ∧ s.rst.state = .checked

/-- Both the row and SECOND_TICK take `s` to `t`: the row names the tick for what it brings about (notes/assumptions/8). -/
def TickedAs (row : Instr) (s t : State) : Prop := exec row s = .next t ∧ exec .secondTick s = .next t

/-! ### Events that cannot arise (notes/assumptions/1) -/

/-- The event of the command cannot arise in the state. An arm `False` is a row whose rule gives it an effect in every
state. An edge on a channel that runs can arise in every capture state. A row that names what a second tick brings about
does not arise where the tick does not bring it about, by the state before it or by the state that SECOND_TICK answers
(notes/assumptions/8). -/
def CannotArise (c : Instr) (s : State) : Prop :=
  match c with
  | .powerOn => False
  | .supplyMonitorReset => s.rst.supplyHeld = true ∨ s.rst.lowCount ≠ 3
  | .supplyMonitorRelease => s.rst.supplyHeld = false
  | .resetPinLow => s.rst.pin = true
  | .resetPinHigh => s.rst.pin = false
  | .chordResetRelease => s.rst.chord = false
  | .settleTimer _ _ => s.rst.state ≠ .settling
  | .roundTimerPa => s.mayDrive = false ∨ s.line.pace ≠ .ahead
  | .syncMarkRelease => s.timers.mark.running = false
  | .noiseRunEnd _ => s.line.dominant = false ∨ s.health.link ≠ .quiet ∧ s.line.rx = .syncSeen
  | .syncRecognised _ _ => s.line.dominant = false ∨ s.health.link = .quiet ∨ s.line.rx = .syncSeen
  | .roundStart => s.line.rx ≠ .syncSeen
  | .roundEnd _ => s.line.rx.inRound = false
  | .missingRound => s.mayDrive = false
  | .silenceEvent => s.health.link ≠ .listen
  | .isolationTimerExpiry =>
    s.health.link ≠ .isolated ∨ s.timers.isolation.running = false ∨ s.health.addressClash = true
  | .setCool source dest _ => ¬ Heard source dest s
  | .setHeat source dest _ => ¬ Heard source dest s
  | .setHumid source dest _ => ¬ Heard source dest s
  | .zoneSet source dest _ => ¬ Heard source dest s
  | .read source dest _ => ¬ Heard source dest s
  | .testDamper source dest _ => ¬ Heard source dest s
  | .testBlower source dest _ => ¬ Heard source dest s
  | .testSpeed source dest _ => ¬ Heard source dest s
  | .forceDefrost source dest _ => ¬ Heard source dest s
  | .corruptCheck source dest _ => ¬ Heard source dest s
  | .muteCount source dest _ => ¬ Heard source dest s
  | .clearTrip source dest _ => ¬ Heard source dest s
  | .normal source dest _ => ¬ Heard source dest s
  | .secondTick => s.timers.second.running = false
  | .ringEmptied ch =>
    ¬ Ticking s ∨ 3 ≤ (s.meas.channel ch).misses ∨
      ∀ t, exec .secondTick s = .next t → (t.meas.channel ch).misses ≠ 3
  | .captureRisingEdge ch _ => (s.capture ch).c.state = .stopped
  | .captureFallingEdge ch _ => (s.capture ch).c.state = .stopped
  | .periodAbandoned ch => (s.capture ch).c.state = .stopped ∨ (s.capture ch).c.state = .waitEdge
  | .keyPress k x => s.timers.keyClock.running = false ∨ k = .mode ∨ s.recognitionAt k x ≠ .press
  | .keyRelease k x => s.timers.keyClock.running = false ∨ s.recognitionAt k x ≠ .release
  | .modeShortPress x =>
    s.timers.keyClock.running = false ∨ s.recognitionAt .mode x ≠ .release ∨ s.timers.modeHold.running = false ∨
      3000000 < (toKeySample s).timers.modeHold.us
  | .modeLongPress => s.timers.modeHold.running = false
  | .chordReset => s.timers.chord.running = false
  | .damperPulse => s.role ≠ .zone ∨ s.damper.machine = .parked
  | .stall => s.damper.machine.driving = false
  | .pauseEnd => s.damper.machine ≠ .pause
  | .retryEnd => s.damper.machine ≠ .retry
  | .homingTimeout => s.damper.seeking = false
  | .coldBlowHoldEnd =>
    ¬ Ticking s ∨ s.handler.holdActive = false ∨ ∀ t, exec .secondTick s = .next t → t.handler.holdActive = true
  | .coilFrostChange => ¬ Ticking s ∨ ∀ t, exec .secondTick s = .next t → t.handler.coilFrost = s.handler.coilFrost
  | .supplyHotChange => ¬ Ticking s ∨ ∀ t, exec .secondTick s = .next t → t.handler.supplyHot = s.handler.supplyHot
  | .auxHeatOn =>
    ¬ Ticking s ∨ s.handler.auxOn = true ∨ s.health.plant.defrost.value = true ∨
      ∀ t, exec .secondTick s = .next t → t.handler.auxOn = false
  | .normalStop =>
    ¬ Ticking s ∨ s.outdoor.comp.isRunning = false ∨
      s.health.plant.coilFrost.value = true ∧ 299 ≤ s.outdoor.frostStop ∨
      ∀ t, exec .secondTick s = .next t → t.outdoor.comp.isRunning = true
  | .frostStop =>
    ¬ Ticking s ∨ s.role ≠ .outdoor ∨ s.outdoor.comp.isRunning = false ∨ s.health.plant.coilFrost.value = false ∨
      s.outdoor.frostStop < 299
  | .minOffEnd => ¬ Ticking s ∨ s.role ≠ .outdoor ∨ s.outdoor.comp ≠ .minOff ∨ s.outdoor.offTimer < 179
  | .defrostEntry =>
    ¬ Ticking s ∨ s.role ≠ .outdoor ∨ s.outdoor.defrost ≠ .normal ∨ defrostAfterTick s ≠ .defrost
  | .defrostEnd =>
    ¬ Ticking s ∨ s.role ≠ .outdoor ∨ s.outdoor.defrost ≠ .defrost ∨
      atLeast (consumed s).tempB 120 = false ∧ s.outdoor.phase < 599
  | .dripEnd => ¬ Ticking s ∨ s.role ≠ .outdoor ∨ s.outdoor.defrost ≠ .drip ∨ s.outdoor.phase < 29
  | .tripAgeExpiry => ¬ Ticking s ∨ s.role ≠ .outdoor ∨ ∀ a ∈ s.outdoor.trips, a < 3599
  | .tripFilterChange => s.timers.tripClock.running = false ∨ s.out.tripRun ≠ 7
  | .pwmPeriodEnd c => (s.pwmTimer c).running = false
  | .hbridgePeriodStart => s.timers.bridge.running = false
  | .switchedIntervalEnd _ => False
  | .blinkClock => s.timers.blink.running = false
  | .dominantRunLeadingEdge => s.line.dominant = true
  | .supplySample _ => False
  | .tripInputSample _ => s.timers.tripClock.running = false
  | .keySample _ => s.timers.keyClock.running = false
  | .modePressRecognition x => s.timers.keyClock.running = false ∨ s.recognitionAt .mode x ≠ .press

end Sys2Proof.Machine
end

