-- ==== Sys2Proof/Certificates/Slice0/Obligations.lean ====
section
/-! DEFINITION. The statements for the provers. Each docstring names the rules of spec/ that a statement formalises. Where
a statement speaks of the station at a timer's expiry, `elapseTo` is the station at that moment (notes/assumptions/2). -/

open Sys2Proof Sys2Proof.Machine

/-! ### The queue and time -/

/-- A step takes the command at the front of the queue and runs it on the station with the queue's rest. On an empty
queue it lets one microsecond pass. While n microseconds pass without a command, every running timer counts them, the
interval timers up to 2 s and the capture counts up to 65535, a GUARD whose two bit times are over becomes WINDOW, and
nothing else changes; an expiry lets the time pass that its timer misses. All this is the model's choice
(notes/assumptions/2, 3, 4). -/
def Obligations.StepRunsTheFrontCommand : Prop :=
  (∀ (c : Instr) (rest : List Instr) (s : State),
    step { s with pending := c :: rest } = exec c { s with pending := rest }) ∧
  (∀ s : State, s.pending = [] → step s = .next (elapse 1 s)) ∧
  (∀ (n : Nat) (s : State),
    let free (t : Timer) : Timer := if t.running = true then ⟨true, t.us + n⟩ else t
    let upTo (cap : Nat) (t : Timer) : Timer := if t.running = true then ⟨true, min cap (t.us + n)⟩ else t
    elapse n s =
      { s with
        line :=
          { s.line with
            rx := if s.line.rx = .guard ∧ 1667 ≤ (free s.timers.round).us then .window else s.line.rx }
        timers :=
          { round := free s.timers.round, run := free s.timers.run, mark := free s.timers.mark
            isolation := free s.timers.isolation, settle := free s.timers.settle
            chordHold := free s.timers.chordHold, supplyClock := free s.timers.supplyClock
            second := free s.timers.second, keyClock := free s.timers.keyClock, tripClock := free s.timers.tripClock
            modeHold := free s.timers.modeHold, chord := free s.timers.chord, stall := free s.timers.stall
            motorRest := free s.timers.motorRest, retry := free s.timers.retry, homing := free s.timers.homing
            bridge := free s.timers.bridge, bridgeDead := free s.timers.bridgeDead
            pwmBlower := free s.timers.pwmBlower, pwmBypass := free s.timers.pwmBypass
            pwmCompressor := free s.timers.pwmCompressor, blink := free s.timers.blink
            valve := upTo 2000000 s.timers.valve, fan := upTo 2000000 s.timers.fan
            heater := upTo 2000000 s.timers.heater
            periodA := upTo 65535 s.timers.periodA, highA := upTo 65535 s.timers.highA
            periodB := upTo 65535 s.timers.periodB, highB := upTo 65535 s.timers.highB } }) ∧
  ∀ (t : Timer) (limit : Nat) (s : State), elapseTo t limit s = elapse (limit - t.us) s

/-- Every command answers a next state in every state, without a fault or a refusal, and none reads or changes the queue
of commands that wait. That it does so also in a state in which its event cannot arise, and with operands that are not
well formed, is the model's choice (notes/assumptions/1, 23). -/
def Obligations.EveryCommandAnswersANextState : Prop :=
  ∀ (c : Instr) (q : List Instr) (s : State),
    ∃ t, exec c s = .next t ∧ t.pending = s.pending ∧ exec c { s with pending := q } = .next { t with pending := q }

/-- A command whose event cannot arise in the state at hand changes nothing, for every row of the table: the conditions
stand row by row in `CannotArise`. This is the model's choice (notes/assumptions/1, 8, 23). -/
def Obligations.EventsThatCannotAriseChangeNothing : Prop :=
  ∀ (c : Instr) (s : State), CannotArise c s → exec c s = .next s

/-! ### Reset and start-up -/

/-- Each of the four sources asserts reset: the reset state becomes ASSERTED with the kind of R185, and every block
takes its reset values at once; the round timer is cleared, and the timers of the damper machine and the settle timer are
stopped (R11, R130, R186). A supply sample that asserts and releases nothing counts: outside a reset by supply one
below 2.7 V raises the count of low samples, short of its fourth, and one of 2.7 V or more returns it to 0; within one,
a sample below 3.0 V changes nothing. The sampling clock starts again. The model's choices that it rests on:
notes/assumptions/2, 5, 13, 19. -/
def Obligations.EverySourceAssertsReset : Prop :=
  (∀ s : State,
    (∃ t, exec .powerOn s = .next t ∧ t.rst.state = .asserted ∧ t.rst.kind = .supply ∧ t.rst.powerOn = true ∧
      t.rst.pin = s.rst.pin ∧ ResetValues s t) ∧
    (s.rst.pin = false →
      ∃ t, exec .resetPinLow s = .next t ∧ t.rst.state = .asserted ∧ t.rst.pin = true ∧
        t.rst.kind = (if s.rst.state = .asserted ∧ s.rst.kind = .supply then .supply else .pin) ∧
        t.rst.powerOn = s.rst.powerOn ∧ t.rst.monitor = s.rst.monitor ∧ t.rst.chord = s.rst.chord ∧ ResetValues s t) ∧
    (s.timers.chord.running = true →
      ∃ t, exec .chordReset s = .next t ∧ t.rst.state = .asserted ∧ t.rst.chord = true ∧
        t.rst.kind = (if s.rst.state = .asserted ∧ s.rst.kind = .supply then .supply else .pin) ∧
        t.rst.powerOn = s.rst.powerOn ∧ t.rst.monitor = s.rst.monitor ∧ t.rst.pin = s.rst.pin ∧
        t.timers.chordHold = ⟨true, 0⟩ ∧ ResetValues s t) ∧
    (s.rst.supplyHeld = false → s.rst.lowCount = 3 →
      (∀ mv, mv < 2700 →
        ∃ t, exec (.supplySample mv) s = .next t ∧ t.rst.state = .asserted ∧ t.rst.kind = .supply ∧
          t.rst.monitor = true ∧ t.rst.lowCount = 4 ∧ ResetValues s t) ∧
      ∃ t, exec .supplyMonitorReset s = .next t ∧ t.rst.state = .asserted ∧ t.rst.kind = .supply ∧
        t.rst.monitor = true ∧ t.rst.lowCount = 4 ∧ ResetValues s t)) ∧
  ∀ (s : State) (mv : Nat),
    let s1 := elapseTo s.timers.supplyClock Config.supplySampleUs s
    let u : State := { s1 with timers := { s1.timers with supplyClock := ⟨true, 0⟩ } }
    (s.rst.supplyHeld = false → 2700 ≤ mv →
      exec (.supplySample mv) s = .next { u with rst := { s.rst with lowCount := 0 } }) ∧
    (s.rst.supplyHeld = false → mv < 2700 → s.rst.lowCount < 3 →
      exec (.supplySample mv) s = .next { u with rst := { s.rst with lowCount := s.rst.lowCount + 1 } }) ∧
    (s.rst.supplyHeld = true → mv < 3000 → exec (.supplySample mv) s = .next u)

/-- A source lets go: while another one asserts, the station stays in ASSERTED; the last one to let go releases the
reset. SETTLING begins with the settle timer at 0, and from 0 run with it the round timer, the second tick's clock, the
period timers of the PWM channels and of the bridge, and the blink clock (R11, R62, R164, R168, R170, R186). A reset of the
SUPPLY kind sets the settings to their defaults and clears LOCKOUT and the trip history, while one of the PIN kind keeps
them. The model's choices that it rests on: notes/assumptions/2, 13, 29, and 19 for the clocks that run from the release. -/
def Obligations.LastSourceReleasesReset : Prop :=
  ∀ s : State, s.rst.state = .asserted →
    ∀ c : Instr,
      ((c = .supplyMonitorRelease ∨ ∃ mv, 3000 ≤ mv ∧ c = .supplySample mv) ∧ s.rst.supplyHeld = true ∨
        c = .resetPinHigh ∧ s.rst.pin = true ∨ c = .chordResetRelease ∧ s.rst.chord = true) →
      ∃ t, exec c s = .next t ∧
        ((c = .supplyMonitorRelease ∨ ∃ mv, c = .supplySample mv) →
          t.rst.supplyHeld = false ∧ t.rst.lowCount = 0 ∧ t.rst.pin = s.rst.pin ∧ t.rst.chord = s.rst.chord) ∧
        (c = .resetPinHigh → t.rst.pin = false ∧ t.rst.supplyHeld = s.rst.supplyHeld ∧ t.rst.chord = s.rst.chord) ∧
        (c = .chordResetRelease → t.rst.chord = false ∧ t.rst.supplyHeld = s.rst.supplyHeld ∧ t.rst.pin = s.rst.pin) ∧
        t.rst.kind = s.rst.kind ∧ t.health = s.health ∧
        (if t.rst.held = true then
          t.rst.state = .asserted ∧ t.zone = s.zone ∧ t.outdoor = s.outdoor
        else
          t.rst.state = .settling ∧
            (t.timers.settle = ⟨true, 0⟩ ∧ t.timers.round = ⟨true, 0⟩ ∧ t.timers.second = ⟨true, 0⟩ ∧
              t.timers.pwmBlower = ⟨true, 0⟩ ∧ t.timers.pwmBypass = ⟨true, 0⟩ ∧ t.timers.pwmCompressor = ⟨true, 0⟩ ∧
              t.timers.bridge = ⟨true, 0⟩ ∧ t.timers.blink = ⟨true, 0⟩) ∧
            (if s.rst.kind = .supply then
              t.zone = { s.zone with settings := ⟨240, 200, 550, .auto⟩ } ∧
                t.outdoor = { s.outdoor with trips := [], lockout := false }
            else t.zone = s.zone ∧ t.outdoor = s.outdoor))

/-- The settle timer's end latches the straps. On a pass the station is CHECKED and in LISTEN, its channels wait for an
edge, and its role starts what R187 names. On a configuration fault it is FAILED in the link state it had, and nothing
starts but the key sampling of a ZONE address (R186, R187). LOCKOUT and the trip history stay in an OUTDOOR station and
are cleared in a ZONE or HANDLER station, which the opening of chapter 9 holds clear. The model's choices that it rests
on: notes/assumptions/2, 14, 19, 28, 29. -/
def Obligations.StrapsDecideTheStart : Prop :=
  ∀ (s : State) (a p : Nibble), s.rst.state = .settling →
    let s1 := elapseTo s.timers.settle Config.settleUs s
    let outdoor : Outdoor :=
      if 2 ≤ a.toNat ∧ a.toNat ≤ 14 then { s.outdoor with trips := [], lockout := false } else s.outdoor
    ((1 ≤ a.toNat ∧ a.toNat ≤ 2 ∨ 3 ≤ a.toNat ∧ a.toNat ≤ 14 ∧ p ≠ 0) →
      ∃ t, exec (.settleTimer a p) s = .next t ∧
        t.rst = { s.rst with state := .checked, address := a, parameter := p } ∧
        t.health.link = .listen ∧ t.health.joining = 0 ∧ t.health.plant = .cleared ∧ t.health.view = s.health.view ∧
        t.line.rx = .idle ∧ t.line.permission = false ∧ t.timers.round = ⟨true, 0⟩ ∧ t.timers.settle = ⟨false, 0⟩ ∧
        t.meas.a = { s.meas.a with state := .waitEdge } ∧ t.meas.b = { s.meas.b with state := .waitEdge } ∧
        (a = 1 → t.role = .outdoor) ∧ (a = 2 → t.role = .handler) ∧ (3 ≤ a.toNat → t.role = .zone) ∧
        (t.role = .zone → t.timers.keyClock = ⟨true, 0⟩ ∧ t.damper.seeking = true ∧ t.damper.homed = false ∧
          t.timers.homing = ⟨true, 0⟩) ∧
        (t.role ≠ .zone → t.timers.tripClock = ⟨true, 0⟩ ∧ t.damper = s.damper) ∧
        t.zone.settings = s.zone.settings ∧ t.outdoor = outdoor ∧ t.handler = s.handler ∧ t.coll = s.coll) ∧
    ((a = 0 ∨ a = 15 ∨ 3 ≤ a.toNat ∧ a.toNat ≤ 14 ∧ p = 0) →
      ∃ t, exec (.settleTimer a p) s = .next t ∧
        t.rst = { s.rst with state := .failed, address := a, parameter := p } ∧
        t.faultIndicator = .on ∧ t.outdoor = outdoor ∧
        t.timers.keyClock = (if a = 0 ∨ a = 15 then s1.timers.keyClock else ⟨true, 0⟩) ∧
        { t with
          rst := s1.rst, outdoor := s1.outdoor
          timers := { t.timers with settle := s1.timers.settle, keyClock := s1.timers.keyClock } } = s1)

/-! ### The line -/

/-- The line goes dominant: a receiving station measures the run from its leading edge. A run that reaches 12 bit times
between rounds is a sync: the receive state becomes SYNC_SEEN. Nothing else changes (R5). The model's choices that it
rests on: notes/assumptions/2, 4. -/
def Obligations.RunsBetweenRoundsAreMeasured : Prop :=
  (∀ s : State, s.line.dominant = false →
    exec .dominantRunLeadingEdge s =
      .next
        { s with
          line := { s.line with dominant := true }
          timers := { s.timers with run := if s.health.link = .quiet then s.timers.run else ⟨true, 0⟩ } }) ∧
  ∀ (s : State) (data : RoundBits) (frame : FrameLevels),
    s.health.link ≠ .quiet → s.line.dominant = true → s.line.rx = .idle →
    let s1 := elapseTo s.timers.run (Config.bitsUs 12) s
    exec (.syncRecognised data frame) s = .next { s1 with line := { s1.line with rx := .syncSeen } }

/-- A run of fewer than 12 bit times ends: in GUARD or WINDOW one of 5 bit times or more sets the framing mark, the
receive state stays, and the station's own mark or silence event that waited for the run's end follows (R5, R9, R12,
R14). The model's choices that it rests on: notes/assumptions/2, 4, 21, 24, 28. -/
def Obligations.NoiseEndsWithoutASync : Prop :=
  ∀ (s : State) (n : Nat), s.line.dominant = true → s.health.link ≠ .quiet → s.line.rx ≠ .syncSeen → n < 12 →
    let s1 := elapseTo s.timers.run (Config.bitsUs n) s
    ∃ t, exec (.noiseRunEnd n) s = .next t ∧
      t.line.dominant = false ∧ t.line.rx = s1.line.rx ∧ t.timers.run = ⟨false, 0⟩ ∧
      t.line.framing =
        (s.line.framing || (s1.line.rx.inRound && decide (Config.bitsUs 5 ≤ s1.timers.run.us))) ∧
      { t with line := s1.line, asm := s1.asm, health := s1.health, coll := s1.coll, timers := s1.timers } = s1 ∧
      (if s.line.pace = .deferred ∧ s.mayDrive = true then
        t.timers.mark = ⟨true, 0⟩ ∧ t.line.pace = .met ∧ t.health = s.health
      else if s.line.silenceWaits = true ∧ s.health.link = .listen then
        t.timers.mark = ⟨true, 0⟩ ∧ t.health = { s.health with link := .joined, badRun := 0 } ∧ t.asm.index = 15 ∧
          t.coll = ⟨⟨.off, 0⟩, ⟨.off, 0⟩⟩ ∧ t.timers.round = ⟨true, s.paUs⟩
      else t.timers.mark = s1.timers.mark ∧ t.health = s.health ∧ t.asm = s.asm ∧ t.coll = s.coll)

/-- A sync in GUARD or WINDOW cuts the window short: the receive state becomes SYNC_SEEN, no round is being read any
more, and the view, the filter and the clash count keep what they held. An arbitrated field whose last bit has ended by
then, at 2500/3 µs for each bit from the round start on, has the outcome of its comparison; every other one that the
station took part in has the outcome LOST (R3, R10, R18, R38, R40). The model's choices that it rests on:
notes/assumptions/2, 4, 7. -/
def Obligations.SyncCutsTheWindowShort : Prop :=
  ∀ (s : State) (data : RoundBits) (frame : FrameLevels),
    s.health.link ≠ .quiet → s.line.dominant = true → s.line.rx.inRound = true →
    let us := (elapseTo s.timers.run 10000 s).timers.round.us
    let wire := viewOf data
    ∃ t, exec (.syncRecognised data frame) s = .next t ∧
      t.line.rx = .syncSeen ∧ t.health.candidate = none ∧ t.health.view = s.health.view ∧
      t.health.plant = s.health.plant ∧ t.health.clashCount = s.health.clashCount ∧
      (∀ im, s.asm.image = some im →
        (3 * us < 2500 * 6 → t.line.outcomes.idx = some .lost) ∧
          (2500 * 6 ≤ 3 * us → t.line.outcomes.idx = some (arbitrationOf im.idx wire.idx)) ∧
          (3 * us < 2500 * 96 → t.line.outcomes.peakc = im.peakc.map fun _ => .lost) ∧
          (2500 * 96 ≤ 3 * us → t.line.outcomes.peakc = im.peakc.map fun x => arbitrationOf x wire.peakc) ∧
          (3 * us < 2500 * 106 → t.line.outcomes.peakh = im.peakh.map fun _ => .lost) ∧
          (2500 * 106 ≤ 3 * us → t.line.outcomes.peakh = im.peakh.map fun x => arbitrationOf x wire.peakh) ∧
          (3 * us < 2500 * 131 → t.line.outcomes.state = some .lost) ∧
          (2500 * 131 ≤ 3 * us → t.line.outcomes.state = some (arbitrationOf im.state wire.state)) ∧
          (3 * us < 2500 * 441 → t.line.outcomes.directive = im.directive.map fun _ => .lost) ∧
          (2500 * 441 ≤ 3 * us →
            t.line.outcomes.directive = im.directive.map fun x => arbitrationOf x wire.directive)) ∧
      (s.asm.image = none → t.line.outcomes = ⟨none, none, none, none, none⟩) ∧
      t.zone.settings = s.zone.settings ∧ t.meas = s.meas ∧ t.rst = s.rst

/-- The trailing edge of a sync is a round start: round timer, framing mark and outcomes are cleared, drive permission
is taken from the link state and the round image with it, the receive state becomes GUARD, a pending reply goes into the
image, and the staged values of the role take effect (R6, R15, R119, R134, R136, R148, R178). A zone's new target is
compared with the position at once: the damper machine stays, drives toward it, stops, or waits out the reversal pause
(R121, R122, R123). The model's choices that it rests on: notes/assumptions/17, 28, and 33 for the candidate view of 0. -/
def Obligations.TrailingEdgeStartsARound : Prop :=
  ∀ s : State, s.line.rx = .syncSeen →
    ∃ t, exec .roundStart s = .next t ∧
      t.timers.round = ⟨true, 0⟩ ∧
      t.line =
        { s.line with
          rx := .guard, dominant := false, pace := .ahead, silenceWaits := false, framing := false,
          permission := s.mayDrive, outcomes := ⟨none, none, none, none, none⟩ } ∧
      t.asm = { s.asm with image := if s.mayDrive then some s.roundImage else none } ∧
      t.health = { s.health with check := 0xFFF#12, candidate := some .zero, clashMark := false } ∧
      t.dir = { s.dir with reply := if s.mayDrive then none else s.dir.reply } ∧
      (s.role = .zone →
        let n := match s.dir.tests.role with | some a => a.toNat * 4 | none => s.damper.pending
        t.damper.target = n ∧ t.damper.position = s.damper.position ∧
          (n = s.damper.target → t.damper = s.damper ∧ t.out.bridge = s.out.bridge) ∧
          (n ≠ s.damper.target → DamperSound s →
            DamperCompared ((n : Int) - s.damper.position) s t ∧
              t.timers.stall =
                (if t.damper.machine = s.damper.machine then s.timers.stall
                else if t.damper.machine.driving = true then ⟨true, 0⟩
                else if s.damper.machine.driving = true then ⟨false, 0⟩
                else s.timers.stall))) ∧
      (s.role ≠ .zone → t.damper = s.damper ∧ t.out.bridge = s.out.bridge) ∧
      (s.role = .handler →
        t.handler.duty = (match s.dir.tests.role with | some a => a.toNat * 4 | none => s.handler.pendingDuty) ∧
          t.out.blower = ⟨s.out.blower.applied, t.handler.duty, true⟩ ∧
          t.handler.bypass = s.handler.pendingBypass ∧
          t.out.bypass = ⟨s.out.bypass.applied, 10 * s.handler.pendingBypass, true⟩) ∧
      (s.role ≠ .handler → t.handler = s.handler ∧ t.out.blower = s.out.blower ∧ t.out.bypass = s.out.bypass) ∧
      (s.role = .outdoor →
        t.outdoor = { s.outdoor with
          ct := match s.dir.tests.role with | some a => a.toNat | none => s.outdoor.pendingCt }) ∧
      (s.role ≠ .outdoor → t.outdoor = s.outdoor) ∧
      { t with
        line := s.line, asm := s.asm, health := s.health, dir := s.dir, timers := s.timers, damper := s.damper,
        handler := s.handler, outdoor := s.outdoor, out := s.out } = s

/-- What a driving station puts into its round image at a round start: the round index raised by 1 modulo 16 as IDX, its
own bit alone in PRES, its call in one bitmap and its demand in that call's peak (nothing for DRY and NONE), the PLANT
flags it owns, its proposal in STATE, its role's byte in SHARE, the slow item numbered by the sent index, its queue's
head in DIRECTIVE while JOINED, the reply it owes, its four flags, and the inverted check of CORRUPT_CHECK at index 0
(R21 to R29, R32 to R34, R36, R174, R178). The model's choices that it rests on: notes/assumptions/17. -/
def Obligations.RoundImageCarriesTheStation : Prop :=
  ∀ s : State, s.line.rx = .syncSeen → s.mayDrive = true →
    let a := s.rst.address.toNat
    let zone := s.role = .zone
    let handler := s.role = .handler
    let outdoor := s.role = .outdoor
    let bit (p : Bool) (weight : Nat) : Nat := if p then weight else 0
    let tests := bit s.dir.tests.role.isSome 1 + bit s.dir.tests.corrupt 1 + bit s.dir.tests.mute 1
    let temp (r : Option Int) : Nat :=
      match r with
      | some x => if x < -200 then 0 else min 255 ((2 * (x + 200) + 5) / 10).toNat
      | none => 255
    let hum (r : Option Int) : Nat := match r with | some h => min 200 ((2 * h.toNat + 5) / 10) | none => 255
    let faults :=
      (if s.health.link = .joined then 2 else 3) + bit (decide (s.meas.a.ring.length < 4)) 8 +
        bit (decide (s.meas.b.ring.length < 4)) 16 + bit (decide (zone ∧ s.damper.fault = true)) 32 +
        bit (decide (zone ∧ s.damper.homed = false)) 64 + bit (decide (outdoor ∧ s.outdoor.lockout = true)) 128
    ∃ t, exec .roundStart s = .next t ∧ ∃ im, t.asm.image = some im ∧
      im.idx.toNat = (s.asm.index.toNat + 1) % 16 ∧
      im.pres = 1#16 <<< a ∧
      im.state.toNat = (512 * modeCode s.coll.proposal.mode + s.coll.proposal.hold) % 4096 ∧
      im.flags.getLsbD 3 = s.health.disagree ∧ im.flags.getLsbD 2 = decide (s.health.link = .holdover) ∧
      im.flags.getLsbD 1 = decide (0 < tests) ∧
      im.flags.getLsbD 0 =
        decide (zone ∧ (s.damper.machine = .homing ∨ s.damper.machine = .pause ∧ s.damper.homingPause = true)) ∧
      im.plant.getLsbD 7 = decide (outdoor ∧ s.out.tripActive = true) ∧
      im.plant.getLsbD 6 = decide (handler ∧ s.handler.supplyHot = true) ∧
      im.plant.getLsbD 5 = decide (handler ∧ 0 < s.out.blower.applied) ∧
      im.plant.getLsbD 4 = decide (handler ∧ s.handler.coilFrost = true) ∧
      im.plant.getLsbD 3 = decide (handler ∧ s.out.tripActive = true) ∧
      im.plant.getLsbD 2 = decide (outdoor ∧ s.outdoor.lockout = true) ∧
      im.plant.getLsbD 1 = decide (outdoor ∧ s.outdoor.defrost ≠ .normal) ∧
      im.plant.getLsbD 0 = decide (outdoor ∧ 0 < s.outdoor.speed) ∧
      im.directive =
        (if s.health.link = .joined then
          s.dir.queue.head?.map fun e =>
            BitVec.ofNat 24 (1048576 * (15 - a) + 65536 * 15 + 256 * e.code.toNat + e.arg.toNat)
        else none) ∧
      im.reply = (s.dir.reply.map fun r => BitVec.ofNat 16 (4096 * a + 256 * r.status.toNat + r.data.toNat)) ∧
      im.invertCheck = (s.dir.tests.corrupt && decide (im.idx = 0)) ∧
      (zone →
        im.share.toNat = s.damper.request % 256 ∧
        im.callc = (if s.zone.call = .cool then im.pres else 0) ∧
        im.callh = (if s.zone.call = .heat then im.pres else 0) ∧
        im.calld = (if s.zone.call = .dry then im.pres else 0) ∧
        im.peakc = (if s.zone.call = .cool then some (BitVec.ofNat 8 s.zone.d) else none) ∧
        im.peakh = (if s.zone.call = .heat then some (BitVec.ofNat 8 s.zone.d) else none) ∧
        im.slow.toNat =
          (match im.idx.toNat with
          | 0 =>
            16 * (match s.zone.settings.setting with | .auto => 0 | .coolOnly => 1 | .heatOnly => 2 | .off => 3) + s.param
          | 1 | 12 => temp s.tempA
          | 2 | 13 => hum s.roomHumidity
          | 3 => temp (some s.zone.settings.sc)
          | 4 => temp (some s.zone.settings.sh)
          | 5 => hum (some s.zone.settings.hl)
          | 6 | 14 => s.zone.d
          | 7 | 15 => s.damper.position / 4
          | 8 => s.health.nearEnd
          | 9 => s.health.farEnd
          | 10 => faults
          | _ => match s.zone.call with | .none => 0 | .cool => 1 | .heat => 2 | .dry => 3) % 256) ∧
      (¬ zone → im.callc = 0 ∧ im.callh = 0 ∧ im.calld = 0 ∧ im.peakc = none ∧ im.peakh = none) ∧
      (handler →
        im.share.toNat = 8 * (s.param + 1) ∧
        im.slow.toNat =
          (match im.idx.toNat with
          | 0 => s.param
          | 1 | 12 => temp s.tempA
          | 2 | 13 => temp s.tempB
          | 3 => s.out.blower.applied / 4
          | 4 => s.handler.bypass
          | 5 => bit s.handler.auxOn 1
          | 6 | 14 => if s.handler.holdActive = true then min 255 (90 - s.handler.holdCount) else 0
          | 7 | 15 => bit s.handler.coilFrost 1 + bit s.handler.supplyHot 2
          | 8 => s.health.nearEnd
          | 9 => s.health.farEnd
          | 10 => faults
          | _ => tests) % 256) ∧
      (outdoor →
        im.share.toNat = s.outdoor.speed % 256 ∧
        im.slow.toNat =
          (match im.idx.toNat with
          | 0 => s.param
          | 1 | 12 => temp s.tempA
          | 2 | 13 => temp s.tempB
          | 3 => s.outdoor.speed
          | 4 => (match s.outdoor.defrost with | .normal => 0 | .defrost => 1 | .drip => 2)
          | 5 => s.outdoor.trips.length
          | 6 | 14 =>
            (match s.outdoor.comp with
            | .stopped => 0
            | .minOff => 1
            | .starting => 2
            | .running => 3
            | .stoppingMinRun => 4
            | .tripped => 5)
          | 7 | 15 => bit s.out.valve.on 1
          | 8 => s.health.nearEnd
          | 9 => s.health.farEnd
          | 10 => faults
          | _ => tests) % 256)

/-- The round timer of a station that may drive reaches Pa: on a recessive line it drives its sync mark at once, on a
dominant one it waits for the end of the run. It lets go of the line 16 bit times (13334 µs) after the mark began (R4,
R11, R12). The round timer of a LISTEN station reaches 3 × Pa: on a recessive line it joins as the lone pacer, with
collective state and proposal (OFF, 0), round index 15, no bad rounds, and its sync mark at once; on a dominant one the
event waits (R14, R50, R97, R107). The isolation timer reaches 10 s without ADDRESS_CLASH: the station enters LISTEN with
the entry actions of R49, and its zone is not served (R56, R86). The model's choices that it rests on:
notes/assumptions/2, 4, 21, and 28, by which the isolation timer is stopped on leaving ISOLATED. -/
def Obligations.LineTimersExpire : Prop :=
  (∀ s : State,
    (s.mayDrive = true → s.line.pace = .ahead →
      let s1 := elapseTo s.timers.round ((1000 + 8 * s.rst.address.toNat) * 1000) s
      exec .roundTimerPa s =
        .next
          (if s.line.dominant = true then { s1 with line := { s1.line with pace := .deferred } }
          else { s1 with line := { s1.line with pace := .met }, timers := { s1.timers with mark := ⟨true, 0⟩ } })) ∧
    (s.timers.mark.running = true →
      let s1 := elapseTo s.timers.mark 13334 s
      ∃ t, exec .syncMarkRelease s = .next t ∧ t.drivingMark = false ∧
        { t with timers := { t.timers with mark := s1.timers.mark } } = s1)) ∧
  (∀ s : State, s.health.link = .listen →
    let s1 := elapseTo s.timers.round (3 * s.paUs) s
    ∃ t, exec .silenceEvent s = .next t ∧
      (s.line.dominant = true → t = { s1 with line := { s1.line with silenceWaits := true } }) ∧
      (s.line.dominant = false →
        t.health = { s.health with link := .joined, badRun := 0 } ∧ t.coll = ⟨⟨.off, 0⟩, ⟨.off, 0⟩⟩ ∧
          t.asm = { s.asm with index := 15 } ∧ t.line = { s1.line with pace := .met, silenceWaits := false } ∧
          t.timers = { s1.timers with round := ⟨true, s.paUs⟩, mark := ⟨true, 0⟩ } ∧
          { t with line := s1.line, asm := s1.asm, health := s1.health, coll := s1.coll, timers := s1.timers } = s1)) ∧
  ∀ s : State, s.health.link = .isolated → s.timers.isolation.running = true → s.health.addressClash = false →
    ∃ t, exec .isolationTimerExpiry s = .next t ∧
      t.health =
        { s.health with
          link := .listen, joining := 0, plant := .cleared, clashCount := 0, disagree := false, lastAccepted := false,
          candidate := none } ∧
      t.line = { s.line with rx := .idle, pace := .ahead, silenceWaits := false, permission := false } ∧
      t.asm = { s.asm with image := none } ∧ t.timers.round = ⟨true, 0⟩ ∧ t.timers.isolation.running = false ∧
      t.zone = { s.zone with served := false } ∧
      t.dir = { s.dir with tracker := ⟨none, 0, none⟩, reply := none } ∧
      t.coll = s.coll ∧ t.damper = s.damper ∧ t.handler = s.handler ∧ t.outdoor = s.outdoor ∧ t.out = s.out ∧
      t.meas = s.meas ∧ t.rst = s.rst

/-! ### Decisions on rounds -/

/-- A round accepted in JOINED or HOLDOVER and handed on: the view is replaced whole, the station is JOINED with no bad
rounds, DISAGREE is clear, the filter takes the PLANT field, and the wire STATE is adopted where its mode code names a
mode. The clash count returns to 0 at a round that the station drove without a clash. The far-end count rises, up to
255, when the station drove the round, its FLAGS carry DISAGREE and the last decision was accepted too, unless
MUTE_COUNT is latched; a READ of item 8 or 9 executed at the round clears its count after that (R36 to R38, R43 to R45,
R47, R51, R53, R105, R106, R180). The model's choices that it rests on: notes/assumptions/7. -/
def Obligations.AcceptedRoundIsHandedOn : Prop :=
  ∀ (s : State) (w : Window), s.mayDrive = true → HandedOn w s →
    let reads (n : Byte) : Prop := ∃ d, ThirdReception d w s ∧ d.code = 0x10 ∧ d.arg = n
    ∃ t, exec (.roundEnd w) s = .next t ∧
      t.line.rx = .idle ∧ t.health.candidate = none ∧
      t.health.view = viewOf w.data ∧ t.health.plant = s.health.plant.update (viewOf w.data).plant ∧
      t.health.link = .joined ∧ t.health.badRun = 0 ∧ t.health.disagree = false ∧ t.health.lastAccepted = true ∧
      t.health.addressClash = s.health.addressClash ∧
      (s.line.permission = true → (∀ im, s.asm.image = some im → ¬ ClashAt w s im) → t.health.clashCount = 0) ∧
      (s.line.permission = false → t.health.clashCount = s.health.clashCount) ∧
      t.coll.state =
        (match modeOfCode ((viewOf w.data).state.toNat / 512) with
        | some m => ⟨m, (viewOf w.data).state.toNat % 512⟩
        | none => s.coll.state) ∧
      t.coll.proposal = propose t.coll.state t.health.view t.health.plant ∧
      (∀ im, s.asm.image = some im → s.line.permission = true → t.asm.index = (viewOf w.data).idx) ∧
      (reads 8 → t.health.nearEnd = 0) ∧ (¬ reads 8 → t.health.nearEnd = s.health.nearEnd) ∧
      (reads 9 → t.health.farEnd = 0) ∧
      (¬ reads 9 →
        t.health.farEnd =
          (if s.line.permission = true ∧ (viewOf w.data).flags.getLsbD 3 = true ∧ s.health.lastAccepted = true ∧
              s.dir.tests.mute = false then
            min 255 (s.health.farEnd + 1)
          else s.health.farEnd)) ∧
      t.rst = s.rst ∧ t.meas = s.meas

/-- Decisions in LISTEN: a bad one, at a round end or by a sync that cuts the window short, returns the joining count to 0,
an accepted one raises it, and the eighth joins the house with the wire's round index and its STATE, or the state it
held where the mode code is 5 to 7 (R37, R49, R105, R106). A decision on a round without drive permission leaves the round
index (R22); an accepted one replaces the view and feeds the filter (R38, R45), a bad one leaves both (R40). DISAGREE is set
by a check that disagrees and cleared otherwise (R41). The model's choices that it rests on: notes/assumptions/2, 7. -/
def Obligations.EighthAcceptedRoundJoins : Prop :=
  ∀ s : State, s.health.link = .listen → s.line.permission = false →
    (∀ c : Instr, EndsBad c s →
      ∃ t, exec c s = .next t ∧
        t.health.joining = 0 ∧ t.health.link = .listen ∧ t.health.lastAccepted = false ∧ t.health.view = s.health.view ∧
          t.health.plant = s.health.plant ∧ t.coll = s.coll ∧ t.asm = s.asm ∧ t.dir = s.dir ∧
          (∀ w, c = .roundEnd w →
            t.health.disagree = decide (s.line.framing = false ∧ w.guards = 0 ∧ w.spacers = 0)) ∧
          (∀ data frame, c = .syncRecognised data frame → t.line.rx = .syncSeen ∧ t.health.disagree = false)) ∧
    ∀ w, EndsAccepted w s →
      ∃ t, exec (.roundEnd w) s = .next t ∧
        t.health.disagree = false ∧ t.health.lastAccepted = true ∧ t.health.view = viewOf w.data ∧
          t.health.plant = s.health.plant.update (viewOf w.data).plant ∧
          (s.health.joining < 7 →
            t.health.joining = s.health.joining + 1 ∧ t.health.link = .listen ∧ t.coll = s.coll ∧ t.dir = s.dir ∧
              t.asm = s.asm) ∧
          (7 ≤ s.health.joining →
            t.health.joining = 0 ∧ t.health.link = .joined ∧ t.health.badRun = 0 ∧ t.asm.index = (viewOf w.data).idx ∧
              t.coll.state =
                (match modeOfCode ((viewOf w.data).state.toNat / 512) with
                | some m => ⟨m, (viewOf w.data).state.toNat % 512⟩
                | none => s.coll.state) ∧
              t.coll.proposal = propose t.coll.state t.health.view t.health.plant)

/-- The near-end count rises by 1, up to 255, at each bad decision on a round the station had permission for and at each
missing round, whatever the cause; a bad decision in LISTEN does not change it. R44's exception is said as well: under
MUTE_COUNT it stays. -/
def Obligations.NearEndCountsBadRounds : Prop :=
  ∀ (c : Instr) (s : State), LinkSound s → s.decides = true → EndsBad c s →
    ∃ t, exec c s = .next t ∧
      (s.health.nearEnd ≤ 255 → t.health.nearEnd ≤ 255) ∧
      (s.dir.tests.mute = true → t.health.nearEnd = s.health.nearEnd) ∧
      (s.dir.tests.mute = false →
        (s.line.permission = true ∨ c = .missingRound → t.health.nearEnd = min 255 (s.health.nearEnd + 1)) ∧
          (s.line.permission = false → c ≠ .missingRound → t.health.nearEnd = s.health.nearEnd) ∧
          (s.health.link = .listen → t.health.nearEnd = s.health.nearEnd))

/-- A bad decision in JOINED or HOLDOVER raises the consecutive-bad count; the fourth in a row takes a JOINED station to
HOLDOVER, and the thirtieth a HOLDOVER station to ISOLATED, with every entry action of R55 and of its role's safe state,
and the isolation timer running (R51, R54, R55, R86, R119, R145, R162). What the round leaves held stays as it was (R40).
A missing round restarts the round timer and leaves the receive state alone (R13). A bad round end and a cut window leave
the sent index as the round index (R22). DISAGREE is set by a check that disagrees and cleared by a framing error, a cut
window, a missing round and the entry to ISOLATED (R41). The model's choices that it rests on: notes/assumptions/2, 7, 16,
25, 27, 28. -/
def Obligations.BadRunsLeaveTheHouse : Prop :=
  ∀ (c : Instr) (s : State), s.mayDrive = true → EndsBad c s →
    ∃ t, exec c s = .next t ∧
      t.health.view = s.health.view ∧ t.health.plant = s.health.plant ∧ t.health.clashCount = s.health.clashCount ∧
      t.health.lastAccepted = false ∧ t.health.farEnd = s.health.farEnd ∧ t.meas = s.meas ∧ t.rst = s.rst ∧
      t.zone.settings = s.zone.settings ∧
      (c = .missingRound →
        t.timers.round = ⟨true, 0⟩ ∧ t.line.rx = (elapseTo s.timers.round (2 * s.paUs) s).line.rx ∧
          t.asm.index = s.asm.index ∧ t.health.disagree = false) ∧
      (c ≠ .missingRound →
        t.asm.index = (match s.asm.image with
          | some im => if s.line.permission = true then im.idx else s.asm.index
          | none => s.asm.index)) ∧
      (∀ w, c = .roundEnd w →
        t.health.disagree =
          decide (t.health.link ≠ .isolated ∧ s.line.framing = false ∧ w.guards = 0 ∧ w.spacers = 0)) ∧
      (∀ data frame, c = .syncRecognised data frame → t.health.disagree = false) ∧
      (s.health.link = .joined ∧ s.health.badRun < 3 → t.health.link = .joined) ∧
      (s.health.link = .joined ∧ 3 ≤ s.health.badRun → t.health.link = .holdover) ∧
      (s.health.link = .joined ∨ s.health.badRun < 29 →
        t.health.badRun = s.health.badRun + 1 ∧ t.coll = s.coll ∧ t.dir.tracker = s.dir.tracker ∧
          t.dir.tests = s.dir.tests ∧ t.damper = s.damper ∧ t.handler = s.handler ∧ t.outdoor = s.outdoor ∧
          t.out = s.out ∧ t.zone = s.zone) ∧
      (s.health.link = .holdover ∧ s.health.badRun < 29 → t.health.link = .holdover) ∧
      (s.health.link = .holdover ∧ 29 ≤ s.health.badRun →
        EntersIsolated (atDecision c s) t ∧ t.timers.isolation = ⟨true, 0⟩ ∧ t.health.addressClash = s.health.addressClash)

/-- What the station drives in a complete window and how its fields come out, once the round has ended: in an arbitrated
field its value up to its drop-out, in the bitmaps, PLANT and FLAGS its own bits, in SHARE and SLOW its own slot alone,
SLOW recessive after a lost IDX, its reply, and its computed check or under CORRUPT_CHECK the inverse of it; the
outcomes are those of the bits as read, none where it took no part (R16 to R19, R21, R23, R36). -/
def Obligations.WindowIsDrivenFieldByField : Prop :=
  ∀ (s : State) (w : Window) (im : Image), s.line.rx.inRound = true → s.asm.image = some im →
    let a := s.rst.address.toNat
    let wire := viewOf w.data
    ∃ t, exec (.roundEnd w) s = .next t ∧
      t.line.outcomes =
        { idx := some (arbitrationOf im.idx wire.idx)
          peakc := im.peakc.map fun x => arbitrationOf x wire.peakc
          peakh := im.peakh.map fun x => arbitrationOf x wire.peakh
          state := some (arbitrationOf im.state wire.state)
          directive := im.directive.map fun x => arbitrationOf x wire.directive } ∧
      t.line.driven =
        { t.line.driven with
          idx := arbitrated im.idx wire.idx, pres := im.pres, callc := im.callc, callh := im.callh, calld := im.calld
          peakc := (match im.peakc with | some x => arbitrated x wire.peakc | none => 0)
          peakh := (match im.peakh with | some x => arbitrated x wire.peakh | none => 0)
          plant := im.plant, state := arbitrated im.state wire.state
          directive := (match im.directive with | some x => arbitrated x wire.directive | none => 0)
          reply := im.reply.getD 0, flags := im.flags
          check := if im.invertCheck = true then ~~~computedCheck w.data else computedCheck w.data } ∧
      ∀ b, 1 ≤ b → b ≤ 14 → 1 ≤ a → a ≤ 14 →
        slotByte t.line.driven.share b = (if b = a then im.share else 0) ∧
          slotByte t.line.driven.slow b = (if b = a ∧ arbitrationOf im.idx wire.idx = .won then im.slow else 0)

/-- A clash at an accepted round that the station drove: a bit of its own SHARE or SLOW slot, or of the REPLY it answers
in, that it left recessive and read dominant. The first one sets the clash count to 1, a round without one returns it to
0, and a second one in a row isolates the station at that decision, with every entry action of R55 and of its role's safe
state, and with ADDRESS_CLASH; the isolation timer is not started (R47, R48, R55, R86, R119, R145, R162). The round is
accepted all the same: view, filter and round index take its fields (R22, R38, R45). The model's choices that it rests on:
notes/assumptions/2, 7, 16, 25, 27, 28. -/
def Obligations.SecondClashIsolates : Prop :=
  ∀ (s : State) (w : Window) (im : Image), s.mayDrive = true → EndsAccepted w s → s.line.permission = true →
    s.asm.image = some im → s.health.clashMark = false →
    ∃ t, exec (.roundEnd w) s = .next t ∧
      (¬ ClashAt w s im → t.health.link = .joined ∧ t.health.clashCount = 0) ∧
      (ClashAt w s im → s.health.clashCount = 0 → t.health.link = .joined ∧ t.health.clashCount = 1) ∧
      (ClashAt w s im → 1 ≤ s.health.clashCount →
        EntersIsolated (atDecision (.roundEnd w) s) t ∧ t.health.addressClash = true ∧ t.health.clashCount = 2 ∧
          t.timers.isolation.running = false ∧ t.health.view = viewOf w.data ∧
          t.health.plant = s.health.plant.update (viewOf w.data).plant ∧ t.health.lastAccepted = true ∧
          t.asm.index = (viewOf w.data).idx ∧ t.health.nearEnd = s.health.nearEnd)

/-- A PLANT flag's filter: a wire bit that differs is taken over at its third accepted round in a row, and one round
that shows the old value starts the count afresh. Each of the eight flags takes the PLANT bit that carries it (R27,
R45). -/
def Obligations.FlagChangesAtTheThirdRound : Prop :=
  (∀ f : FlagFilter,
    (f.update f.value = ⟨f.value, 0⟩) ∧
      (f.agree < 2 → f.update (!f.value) = ⟨f.value, f.agree + 1⟩) ∧
      (2 ≤ f.agree → f.update (!f.value) = ⟨!f.value, 0⟩)) ∧
  ∀ (p : PlantFilter) (plant : Byte),
    p.update plant =
      { hpTrip := p.hpTrip.update (plant.getLsbD 7), supplyHot := p.supplyHot.update (plant.getLsbD 6)
        fanRun := p.fanRun.update (plant.getLsbD 5), coilFrost := p.coilFrost.update (plant.getLsbD 4)
        overflow := p.overflow.update (plant.getLsbD 3), lockout := p.lockout.update (plant.getLsbD 2)
        defrost := p.defrost.update (plant.getLsbD 1), compRun := p.compRun.update (plant.getLsbD 0) }

/-! ### Directives -/

/-- SET_COOL, SET_HEAT, SET_HUMID and ZONE_SET at a zone: the argument is decoded and limited, the other set point
follows where the gap rule requires it, and the data is the code of the value that stands (R74, R75, R76). The model's
choices that it rests on: notes/assumptions/9. -/
def Obligations.SettingDirectivesSetTheZone : Prop :=
  ∀ (s : State) (src dst : Nibble) (arg : Byte), Heard src dst s → s.role = .zone →
    (∃ t, exec (.setCool src dst arg) s = .next t ∧
      ExecutedDone ⟨src, dst, 0x01, arg⟩ (tempCode t.zone.settings.sc) s t ∧ t.dir.tests = s.dir.tests ∧
      t.zone.settings.sc = max 180 (min 320 (-200 + 5 * (arg.toNat : Int))) ∧
      t.zone.settings.sh =
        (if t.zone.settings.sc - s.zone.settings.sh < 20 then t.zone.settings.sc - 20 else s.zone.settings.sh) ∧
      t.zone.settings.hl = s.zone.settings.hl ∧ t.zone.settings.setting = s.zone.settings.setting ∧
      { t with dir := s.dir, zone := { t.zone with settings := s.zone.settings } } = s) ∧
    (∃ t, exec (.setHeat src dst arg) s = .next t ∧
      ExecutedDone ⟨src, dst, 0x02, arg⟩ (tempCode t.zone.settings.sh) s t ∧ t.dir.tests = s.dir.tests ∧
      t.zone.settings.sh = max 100 (min 280 (-200 + 5 * (arg.toNat : Int))) ∧
      t.zone.settings.sc =
        (if s.zone.settings.sc - t.zone.settings.sh < 20 then t.zone.settings.sh + 20 else s.zone.settings.sc) ∧
      t.zone.settings.hl = s.zone.settings.hl ∧ t.zone.settings.setting = s.zone.settings.setting ∧
      { t with dir := s.dir, zone := { t.zone with settings := s.zone.settings } } = s) ∧
    (∃ t, exec (.setHumid src dst arg) s = .next t ∧
      ExecutedDone ⟨src, dst, 0x03, arg⟩ (humCode t.zone.settings.hl) s t ∧ t.dir.tests = s.dir.tests ∧
      t.zone.settings = { s.zone.settings with hl := max 400 (min 700 (5 * (arg.toNat : Int))) } ∧
      { t with dir := s.dir, zone := { t.zone with settings := s.zone.settings } } = s) ∧
    (∀ x, settingOfCode arg.toNat = some x →
      ∃ t, exec (.zoneSet src dst arg) s = .next t ∧
        ExecutedDone ⟨src, dst, 0x04, arg⟩ arg s t ∧ t.dir.tests = s.dir.tests ∧
        t.zone.settings = { s.zone.settings with setting := x } ∧
        { t with dir := s.dir, zone := { t.zone with settings := s.zone.settings } } = s)

/-- The directives of every role. READ returns the slow item of its number as it stands; item 8 clears the near-end
count and item 9 the far-end count, whether or not MUTE_COUNT is latched. CORRUPT_CHECK and MUTE_COUNT are latched, and
NORMAL removes every latched test and answers how many there were. Nothing else changes (R44, R180, R181, R182). The
model's choices that it rests on: notes/assumptions/9. -/
def Obligations.EveryRoleReadsAndTests : Prop :=
  ∀ (s : State) (src dst : Nibble) (arg : Byte), Heard src dst s →
    (arg.toNat ≤ 15 →
      ∃ t, exec (.read src dst arg) s = .next t ∧
        ExecutedDone ⟨src, dst, 0x10, arg⟩ (s.slowItem arg.toNat) s t ∧ t.dir.tests = s.dir.tests ∧
        t.health.nearEnd = (if arg = 8 then 0 else s.health.nearEnd) ∧
        t.health.farEnd = (if arg = 9 then 0 else s.health.farEnd) ∧
        { t with
          dir := s.dir
          health := { t.health with nearEnd := s.health.nearEnd, farEnd := s.health.farEnd } } = s) ∧
    (∃ t, exec (.corruptCheck src dst arg) s = .next t ∧ ExecutedDone ⟨src, dst, 0x30, arg⟩ 0 s t ∧
      t.dir.tests = { s.dir.tests with corrupt := true } ∧ { t with dir := s.dir } = s) ∧
    (∃ t, exec (.muteCount src dst arg) s = .next t ∧ ExecutedDone ⟨src, dst, 0x31, arg⟩ 0 s t ∧
      t.dir.tests = { s.dir.tests with mute := true } ∧ { t with dir := s.dir } = s) ∧
    (∃ t, exec (.normal src dst arg) s = .next t ∧
      ExecutedDone ⟨src, dst, 0x3F, arg⟩
        (BitVec.ofNat 8 ((if s.dir.tests.role = none then 0 else 1) + (if s.dir.tests.corrupt then 1 else 0) +
          (if s.dir.tests.mute then 1 else 0))) s t ∧
      t.dir.tests = ⟨none, false, false⟩ ∧ { t with dir := s.dir } = s)

/-- The role tests latch their limited argument in place of the one before; TEST_DAMPER also clears a damper fault and
starts homing, and leaves a damper without a fault alone (R128, R144, R161, R181). The model's choices that it rests on:
notes/assumptions/9. -/
def Obligations.RoleTestsLatchTheirArgument : Prop :=
  ∀ (s : State) (src dst : Nibble) (arg : Byte), Heard src dst s →
    (s.role = .zone →
      ∃ t, exec (.testDamper src dst arg) s = .next t ∧
        ExecutedDone ⟨src, dst, 0x20, arg⟩ (BitVec.ofNat 8 (min 100 arg.toNat)) s t ∧
        t.dir.tests = { s.dir.tests with role := some (BitVec.ofNat 8 (min 100 arg.toNat)) } ∧
        (s.damper.fault = false → { t with dir := s.dir } = s) ∧
        (s.damper.fault = true →
          t.damper.fault = false ∧ t.damper.seeking = true ∧ t.damper.homed = false ∧ t.damper.stalls = 0 ∧
            t.damper.position = s.damper.position ∧ t.timers.homing = ⟨true, 0⟩ ∧
            { t with dir := s.dir, damper := s.damper, timers := s.timers, out := { t.out with bridge := s.out.bridge } } =
              s)) ∧
    (s.role = .handler →
      ∃ t, exec (.testBlower src dst arg) s = .next t ∧
        let a : Byte := if arg.toNat = 0 then 0 else BitVec.ofNat 8 (max 75 (min 250 arg.toNat))
        ExecutedDone ⟨src, dst, 0x21, arg⟩ a s t ∧ t.dir.tests = { s.dir.tests with role := some a } ∧
          { t with dir := s.dir } = s) ∧
    (s.role = .outdoor →
      ∃ t, exec (.testSpeed src dst arg) s = .next t ∧
        let a : Byte := if arg.toNat = 0 then 0 else BitVec.ofNat 8 (max 30 (min 100 arg.toNat))
        ExecutedDone ⟨src, dst, 0x22, arg⟩ a s t ∧ t.dir.tests = { s.dir.tests with role := some a } ∧
          { t with dir := s.dir } = s)

/-- FORCE_DEFROST at an outdoor station: in HEAT, with S above 0 and the defrost state NORMAL, it enters DEFROST with
the fan asked off; otherwise it is refused and nothing else changes (R155, R158). CLEAR_TRIP clears LOCKOUT and removes
every trip from the history, DONE with 0 whatever the argument and whether or not there was anything to clear; the
filtered trip input, HP_TRIP, the compressor machine and the minimum off timer stay as they were, and so does everything
else (R160). The model's choices that it rests on: notes/assumptions/9, and 34, by which the valve is not asked here but at
the next second tick. -/
def Obligations.OutdoorDirectivesActOnThePlant : Prop :=
  ∀ (s : State) (src dst : Nibble) (arg : Byte), Heard src dst s → s.role = .outdoor →
    (∃ t, exec (.forceDefrost src dst arg) s = .next t ∧
      (if s.coll.state.mode = .heat ∧ 0 < s.outdoor.speed ∧ s.outdoor.defrost = .normal then
        ExecutedDone ⟨src, dst, 0x23, arg⟩ 0 s t ∧ t.dir.tests = s.dir.tests ∧
          t.outdoor = { s.outdoor with defrost := .defrost, entryCount := 0, phase := 0 } ∧
          t.out.fan = s.out.fan.request false s.timers.fan.us ∧
          { t with
            dir := s.dir, outdoor := s.outdoor, out := { t.out with fan := s.out.fan }
            timers := { t.timers with fan := s.timers.fan } } = s
      else ExecutedUnable ⟨src, dst, 0x23, arg⟩ s t)) ∧
    ∃ t, exec (.clearTrip src dst arg) s = .next t ∧
      t.outdoor.lockout = false ∧ t.outdoor.trips = [] ∧
      ExecutedDone ⟨src, dst, 0x3E, arg⟩ 0 s t ∧ t.dir.tests = s.dir.tests ∧
      t.out.tripActive = s.out.tripActive ∧ t.hpTrip = s.hpTrip ∧ t.outdoor.comp = s.outdoor.comp ∧
      t.outdoor.offTimer = s.outdoor.offTimer ∧
      { t with dir := s.dir, outdoor := { t.outdoor with lockout := s.outdoor.lockout, trips := s.outdoor.trips } } = s

/-- A directive that is not for the station's role, or whose argument lies outside an enumeration, is marked executed
with no action taken and the outcome UNABLE (R177, R179). The model's choices that it rests on: notes/assumptions/9. -/
def Obligations.MisplacedDirectivesAreRefused : Prop :=
  ∀ (s : State) (src dst : Nibble) (arg : Byte), Heard src dst s →
    (s.role ≠ .zone →
      (∃ t, exec (.setCool src dst arg) s = .next t ∧ ExecutedUnable ⟨src, dst, 0x01, arg⟩ s t) ∧
      (∃ t, exec (.setHeat src dst arg) s = .next t ∧ ExecutedUnable ⟨src, dst, 0x02, arg⟩ s t) ∧
      (∃ t, exec (.setHumid src dst arg) s = .next t ∧ ExecutedUnable ⟨src, dst, 0x03, arg⟩ s t) ∧
      (∃ t, exec (.testDamper src dst arg) s = .next t ∧ ExecutedUnable ⟨src, dst, 0x20, arg⟩ s t)) ∧
    (s.role ≠ .zone ∨ 3 < arg.toNat →
      ∃ t, exec (.zoneSet src dst arg) s = .next t ∧ ExecutedUnable ⟨src, dst, 0x04, arg⟩ s t) ∧
    (15 < arg.toNat → ∃ t, exec (.read src dst arg) s = .next t ∧ ExecutedUnable ⟨src, dst, 0x10, arg⟩ s t) ∧
    (s.role ≠ .handler →
      ∃ t, exec (.testBlower src dst arg) s = .next t ∧ ExecutedUnable ⟨src, dst, 0x21, arg⟩ s t) ∧
    (s.role ≠ .outdoor →
      (∃ t, exec (.testSpeed src dst arg) s = .next t ∧ ExecutedUnable ⟨src, dst, 0x22, arg⟩ s t) ∧
      (∃ t, exec (.forceDefrost src dst arg) s = .next t ∧ ExecutedUnable ⟨src, dst, 0x23, arg⟩ s t) ∧
      (∃ t, exec (.clearTrip src dst arg) s = .next t ∧ ExecutedUnable ⟨src, dst, 0x3E, arg⟩ s t))

/-- The directive unit at an accepted round handed on, in JOINED, HOLDOVER or as the eighth in LISTEN: it works on the
station that the decision has left (`adopted`), before the role's block. An empty field empties the tracker, a different
directive starts it at 1, the same one raises the count up to 3. The third reception of a directive addressed to the
station executes it: the state that the unit leaves is the one that the directive's own row leaves, and UNABLE for a
code outside the table; later receptions execute nothing. A unicast to the station is owed a reply, SEEN, DONE or UNABLE
(R176, R177, R178). The model's choices that it rests on: notes/assumptions/7, 9, 10. -/
def Obligations.ThirdReceptionExecutesOnce : Prop :=
  ∀ (s : State) (w : Window), HandedOn w s →
    let u := adopted w s
    ∃ u', exec (.roundEnd w) s = .next (roleRound s.zone.settings u') ∧
      (match unpackDirective (viewOf w.data).directive with
      | none => u' = { u with dir := { u.dir with tracker := ⟨none, 0, none⟩, reply := none } }
      | some d =>
        (ThirdReception d w s →
          (∀ row, directiveRow d = some row → exec row u = .next u') ∧
            (directiveRow d = none → ExecutedUnable d u u')) ∧
        (¬ ThirdReception d w s →
          (s.dir.tracker.last ≠ some d → u'.dir.tracker = ⟨some d, 1, none⟩) ∧
            (s.dir.tracker.last = some d →
              u'.dir.tracker = { s.dir.tracker with count := min 3 (s.dir.tracker.count + 1) }) ∧
            (d.dest ≠ s.rst.address → u'.dir.reply = none) ∧
            (d.dest = s.rst.address →
              u'.dir.reply =
                some
                  (match u'.dir.tracker.executed with
                  | some x => if x.done then ⟨2, x.data⟩ else ⟨3, d.arg⟩
                  | none => if acceptedCode s.role d = none then ⟨3, d.arg⟩ else ⟨1, d.arg⟩)) ∧
            { u' with dir := { u'.dir with tracker := u.dir.tracker, reply := u.dir.reply } } = u))

/-- The transmit queue after the decision on a round the station drove: every entry left is an entry of before, one
round older and short of 16; only the head's win count moves, up by 1 for an accepted WON round, to 0 for an accepted
LOST one; a third win removes the head; and no entry is lost but by a third win or by its age. A round end and a cut
bring that update to a station with drive permission, unless it enters ISOLATED, where the queue is emptied; without
permission the queue stays (R55, R174). The model's choices that it rests on: notes/assumptions/7. -/
def Obligations.QueueAgesAndDropsItsHead : Prop :=
  (∀ (accepted : Bool) (out : Option Arbitration) (e : QueueEntry) (rest : List QueueEntry),
    (∀ x ∈ e :: rest, x.wins < 3 ∧ x.age < 16) →
    let wins :=
      if accepted = true ∧ out = some .won then e.wins + 1 else if accepted = true ∧ out = some .lost then 0 else e.wins
    let aged (x : QueueEntry) : QueueEntry := { x with age := x.age + 1 }
    let tail := (rest.filter fun x => decide (x.age < 15)).map aged
    updateQueue accepted out (e :: rest) =
      if wins = 3 ∨ e.age = 15 then tail else { e with wins := wins, age := e.age + 1 } :: tail) ∧
  (∀ (accepted : Bool) (out : Option Arbitration), updateQueue accepted out [] = []) ∧
  ∀ (s : State) (w : Window), s.mayDrive = true → s.line.rx.inRound = true →
    (∃ t, exec (.roundEnd w) s = .next t ∧
      (t.health.link = .isolated → t.dir.queue = []) ∧
      (t.health.link ≠ .isolated → s.line.permission = false → t.dir.queue = s.dir.queue) ∧
      (t.health.link ≠ .isolated → s.line.permission = true →
        (EndsAccepted w s → t.dir.queue = updateQueue true t.line.outcomes.directive s.dir.queue) ∧
          (¬ EndsAccepted w s → t.dir.queue = updateQueue false t.line.outcomes.directive s.dir.queue))) ∧
    (s.line.dominant = true →
      ∀ (data : RoundBits) (frame : FrameLevels), ∃ t, exec (.syncRecognised data frame) s = .next t ∧
        (t.health.link = .isolated → t.dir.queue = []) ∧
        (t.health.link ≠ .isolated →
          t.dir.queue =
            (if s.line.permission = true then updateQueue false t.line.outcomes.directive s.dir.queue
            else s.dir.queue)))

/-! ### Measurement -/

/-- Under the humidity conversion a well-formed pair gives 1000 × H / P rounded to nearest, and the limit to 0..1000
changes no value; under the temperature conversion it gives 2000 × H / P rounded to nearest, which lies within 0..2000,
and is a good sample within 100..1500. A pair that is not well formed gives none (R64, R65, R66). -/
def Obligations.WellFormedPairsConvert : Prop :=
  ∀ p h : Nat,
    (500 ≤ p ∧ p ≤ 4000 ∧ 1 ≤ h ∧ h ≤ p - 1 →
      humSample p h = some ((2000 * h + p) / (2 * p)) ∧ (2000 * h + p) / (2 * p) ≤ 1000 ∧
        0 < 1000 * h ∧ 1000 * h < 1000 * p ∧
        (4000 * h + p) / (2 * p) ≤ 2000 ∧
        tempSample p h =
          if 100 ≤ (4000 * h + p) / (2 * p) ∧ (4000 * h + p) / (2 * p) ≤ 1500 then some ((4000 * h + p) / (2 * p))
          else none) ∧
    (¬ (500 ≤ p ∧ p ≤ 4000 ∧ 1 ≤ h ∧ h ≤ p - 1) → humSample p h = none ∧ tempSample p h = none)

/-- A second tick consumes both channels, each by its conversion: a fresh pair that converts is a good sample, anything
else a miss, the third in a row empties the ring, and fresh is clear afterwards. Before the entry to LISTEN nothing but
time passes (R62, R63, R67, R68, R72). RING_EMPTIED is the tick at which a channel's third miss comes. The rest of the
tick is the role's own: the other roles' blocks, the view, the line and the directive unit keep what they held. The
model's choices that it rests on: notes/assumptions/2, 8, 19. -/
def Obligations.SecondTickConsumesBothChannels : Prop :=
  ∀ s : State, s.timers.second.running = true →
    let s1 := elapseTo s.timers.second 1000000 s
    let u : State := { s1 with timers := { s1.timers with second := ⟨true, 0⟩ } }
    (s.rst.state ≠ .checked → exec .secondTick s = .next u) ∧
    (s.rst.state = .checked →
      ∃ t, exec .secondTick s = .next t ∧
        (∀ ch,
          let c := s.meas.channel ch
          let conv : Nat → Nat → Option Nat := if ch = .b ∧ s.role = .zone then humSample else tempSample
          let v := if c.fresh = true then conv c.p c.h else none
          t.meas.channel ch =
            { c with
              fresh := false
              ring := match v with
                | some x => (if 8 ≤ c.ring.length then c.ring.tail else c.ring) ++ [x]
                | none => if 2 ≤ c.misses then [] else c.ring
              misses := match v with
                | some _ => 0
                | none => min 3 (c.misses + 1) } ∧
            (v = none → c.misses = 2 →
              exec (.ringEmptied ch) s = .next t ∧ (t.meas.channel ch).ring = [] ∧
                (t.meas.channel ch).valid = false)) ∧
        (s.role ≠ .zone → t.zone = s.zone) ∧ (s.role ≠ .handler → t.handler = s.handler) ∧
        (s.role ≠ .outdoor → t.outdoor = s.outdoor) ∧
        (s.role = .zone → t.out = s.out ∧ t.timers = u.timers ∧ t.zone.settings = s.zone.settings) ∧
        (s.role = .handler →
          { t.out with heater := s.out.heater } = s.out ∧ { t.timers with heater := u.timers.heater } = u.timers ∧
            t.handler.fb = s.handler.fb ∧ t.handler.pendingDuty = s.handler.pendingDuty ∧ t.handler.duty = s.handler.duty ∧
            t.handler.pendingBypass = s.handler.pendingBypass ∧ t.handler.bypass = s.handler.bypass ∧
            t.handler.compRecord = s.handler.compRecord) ∧
        (s.role = .outdoor →
          { t.out with
            compressor := s.out.compressor, tripHold := s.out.tripHold, valve := s.out.valve, fan := s.out.fan } =
              s.out ∧
            { t.timers with valve := u.timers.valve, fan := u.timers.fan } = u.timers ∧
            t.outdoor.pendingCt = s.outdoor.pendingCt ∧ t.outdoor.ct = s.outdoor.ct ∧
            t.outdoor.lockout = s.outdoor.lockout) ∧
        { t with
          meas := u.meas, timers := u.timers, zone := u.zone, handler := u.handler, outdoor := u.outdoor, out := u.out } =
          u)

/-- A rising edge ends an open period, whose pair is latched if fresh is clear and dropped otherwise, and opens the next
one; in HIGH it changes nothing. A falling edge in HIGH stops the high-time count and enters LOW; elsewhere it changes
nothing. A latched pair has H at least 1 and P longer than H: an edge that would come sooner changes nothing. A period
whose count reaches 65535 is abandoned: the channel waits for an edge, its pair and its fresh flag as they were. `n`
capture ticks pass before an edge (R60, R61). The model's choices that it rests on: notes/assumptions/2, 20. -/
def Obligations.EdgesCaptureThePair : Prop :=
  ∀ (s : State) (ch : Channel) (n : Nat), (s.capture ch).c.state ≠ .stopped →
    (let s1 := elapse n s
      let x := s1.capture ch
      let pair := 0 < x.high.us ∧ x.high.us < x.period.us
      ∃ t, exec (.captureRisingEdge ch n) s = .next t ∧
        (x.c.state = .high ∨ x.c.state = .low ∧ x.period.us < 65535 ∧ ¬ pair → t = s1) ∧
        (x.c.state = .waitEdge ∨ x.c.state = .low ∧ (65535 ≤ x.period.us ∨ pair) →
          (t.capture ch).c.state = .high ∧ (t.capture ch).period = ⟨true, 0⟩ ∧ (t.capture ch).high = ⟨true, 0⟩ ∧
            (t.capture ch).c.ring = x.c.ring ∧ (t.capture ch).c.misses = x.c.misses ∧
            (x.c.state = .low ∧ x.period.us < 65535 ∧ x.c.fresh = false →
              (t.capture ch).c.fresh = true ∧ (t.capture ch).c.p = x.period.us ∧ (t.capture ch).c.h = x.high.us) ∧
            (x.c.state = .waitEdge ∨ 65535 ≤ x.period.us ∨ x.c.fresh = true →
              (t.capture ch).c.fresh = x.c.fresh ∧ (t.capture ch).c.p = x.c.p ∧ (t.capture ch).c.h = x.c.h)) ∧
        t.withCapture ch x = s1) ∧
    (let s1 := elapse n s
      let x := s1.capture ch
      ∃ t, exec (.captureFallingEdge ch n) s = .next t ∧
        (x.c.state = .high ∧ x.period.us < 65535 ∧ 0 < x.high.us →
          t = s1.withCapture ch ⟨{ x.c with state := .low }, x.period, ⟨false, x.high.us⟩⟩) ∧
        (x.c.state = .high ∧ 65535 ≤ x.period.us →
          t = s1.withCapture ch ⟨{ x.c with state := .waitEdge }, ⟨false, 0⟩, ⟨false, 0⟩⟩) ∧
        (x.c.state ≠ .high ∨ x.period.us < 65535 ∧ x.high.us = 0 → t = s1)) ∧
    ((s.capture ch).c.state = .high ∨ (s.capture ch).c.state = .low →
      let s1 := elapseTo (s.capture ch).period 65535 s
      exec (.periodAbandoned ch) s =
        .next (s1.withCapture ch ⟨{ (s.capture ch).c with state := .waitEdge }, ⟨false, 0⟩, ⟨false, 0⟩⟩))

/-! ### Second ticks of the roles -/

/-- The call machine of a zone at a second tick: NONE under a blocking condition, otherwise the moves of R84 with the
readings of this tick; a move clears the served mark, sets A to 0 for COOL and HEAT, and sets D to the demand of R88 with
A at 0, for DRY to that of R89, and for NONE to 0; without a move the zone is as it was (R83, R84, R85). -/
def Obligations.CallFollowsTheRoom : Prop :=
  ∀ s : State, Ticking s → s.role = .zone →
    ∃ t, exec .secondTick s = .next t ∧
      let z := s.zone.settings
      let cool : Bool := decide (z.setting = .auto ∨ z.setting = .coolOnly)
      let heat : Bool := decide (z.setting = .auto ∨ z.setting = .heatOnly)
      let blocked : Bool := s.damper.fault || !s.damper.homed
      t.zone.call =
        (match blocked, t.tempA with
        | true, _ => .none
        | false, none => .none
        | false, some tm =>
          match s.zone.call with
          | .none =>
            if cool = true ∧ z.sc + 5 ≤ tm then .cool
            else if heat = true ∧ tm ≤ z.sh - 5 then .heat
            else if cool = true ∧ atLeast t.roomHumidity (z.hl + 50) = true ∧ z.sh + 10 ≤ tm then .dry
            else .none
          | .cool => if tm ≤ z.sc - 5 ∨ cool = false then .none else .cool
          | .heat => if z.sh + 5 ≤ tm ∨ heat = false then .none else .heat
          | .dry =>
            if cool = true ∧ z.sc + 5 ≤ tm then .cool
            else if atMost t.roomHumidity z.hl = true ∨ t.roomHumidity = none ∨ tm < z.sh + 5 ∨ cool = false then .none
            else .dry) ∧
      (t.zone.call = s.zone.call → t.zone = s.zone) ∧
      (t.zone.call ≠ s.zone.call →
        t.zone.served = false ∧
          (t.zone.call = .none → t.zone.d = 0 ∧ t.zone.a = s.zone.a) ∧
          (t.zone.call = .dry →
            t.zone.a = s.zone.a ∧
              ∃ rh, t.roomHumidity = some rh ∧ (t.zone.d : Int) = max 4 (min 32 ((rh - z.hl) / 5))) ∧
          (t.zone.call = .cool →
            t.zone.a = 0 ∧ ∃ tm, t.tempA = some tm ∧ (t.zone.d : Int) = max 1 (min 63 (2 * (tm - z.sc + 5)))) ∧
          (t.zone.call = .heat →
            t.zone.a = 0 ∧ ∃ tm, t.tempA = some tm ∧ (t.zone.d : Int) = max 1 (min 63 (2 * (z.sh - tm + 5))))) ∧
      t.zone.settings = z ∧ t.zone.up = s.zone.up ∧ t.zone.down = s.zone.down ∧ t.zone.mode = s.zone.mode

/-- The handler's second tick, with the readings of that tick: the cold-blow hold counts to 90 or ends on a warm coil,
COIL_FROST changes at the thirtieth and SUPPLY_HOT at the tenth qualifying tick in a row, any other tick returning the
run to 0, and the auxiliary heat machine goes ON at 600 ticks in a row of its conditions or at once in a defrost, and
OFF out of HEAT or at a low peak, with its switched output asked for its state at every tick, under its interval (R169).
A row that names such a tick is that tick (R138 to R141). The model's choices that it rests on: notes/assumptions/8, 27,
and 25 for the request at a tick that does not move the machine. -/
def Obligations.HandlerTicksChangeItsFlags : Prop :=
  ∀ s : State, Ticking s → s.role = .handler →
    let coil := (consumed s).tempA
    let supply := (consumed s).tempB
    let h := s.handler
    let heat := s.coll.state.mode = .heat
    let defrost := s.health.plant.defrost.value = true
    let peak := s.health.view.peakh.toNat
    let asks := heat ∧ 56 ≤ peak ∧ s.health.plant.compRun.value = true
    let holdEnds := h.holdActive = true ∧ (atLeast coil 280 = true ∨ 89 ≤ h.holdCount)
    let frost :=
      if h.coilFrost = true then atLeast coil 70 = true
      else (s.coll.state.mode = .cool ∨ s.coll.state.mode = .dry) ∧ atMost coil 10 = true
    let hot := if h.supplyHot = true then atMost supply 500 = true else atLeast supply 550 = true
    let auxEnds := h.auxOn = true ∧ (¬ heat ∨ ¬ defrost ∧ peak < 40)
    let auxStarts := h.auxOn = false ∧ (heat ∧ defrost ∨ asks ∧ 599 ≤ h.auxRun)
    (∃ t, exec .secondTick s = .next t ∧
      t.handler.holdActive = (h.holdActive && !decide holdEnds) ∧
      t.handler.holdCount = (if holdEnds then 0 else if h.holdActive = true then h.holdCount + 1 else h.holdCount) ∧
      t.handler.coilFrost = (if frost ∧ 29 ≤ h.frostRun then !h.coilFrost else h.coilFrost) ∧
      t.handler.frostRun = (if frost ∧ h.frostRun < 29 then h.frostRun + 1 else 0) ∧
      t.handler.supplyHot = (if hot ∧ 9 ≤ h.hotRun then !h.supplyHot else h.supplyHot) ∧
      t.handler.hotRun = (if hot ∧ h.hotRun < 9 then h.hotRun + 1 else 0) ∧
      t.handler.auxOn = (if auxEnds then false else if auxStarts then true else h.auxOn) ∧
      t.handler.auxRun =
        (if h.auxOn = true then (if auxEnds then 0 else h.auxRun)
        else if asks ∧ ¬ auxStarts then h.auxRun + 1 else 0) ∧
      t.out.heater = s.out.heater.request t.handler.auxOn (consumed s).timers.heater.us ∧
      t.timers.heater = (if t.out.heater.on = s.out.heater.on then (consumed s).timers.heater else ⟨true, 0⟩)) ∧
    (holdEnds →
      ∃ t, exec .coldBlowHoldEnd s = .next t ∧ TickedAs .coldBlowHoldEnd s t ∧
        t.handler.holdActive = false ∧ t.handler.fb = h.fb) ∧
    (frost → 29 ≤ h.frostRun →
      ∃ t, exec .coilFrostChange s = .next t ∧ TickedAs .coilFrostChange s t ∧
        t.handler.coilFrost = !h.coilFrost ∧ t.handler.frostRun = 0) ∧
    (hot → 9 ≤ h.hotRun →
      ∃ t, exec .supplyHotChange s = .next t ∧ TickedAs .supplyHotChange s t ∧
        t.handler.supplyHot = !h.supplyHot ∧ t.handler.hotRun = 0) ∧
    (h.auxOn = false → asks → 599 ≤ h.auxRun → ¬ defrost →
      ∃ t, exec .auxHeatOn s = .next t ∧ TickedAs .auxHeatOn s t ∧
        t.handler.auxOn = true ∧ t.handler.auxRun = 0 ∧ (t.out.heater.on = true ∨ t.out.heater.held = some true))

/-- The outdoor station's minimum off time and trip history at every second tick, and the ticks that stop the compressor
on a frosted coil or after its minimum run. The minimum off timer rises by 1 in MIN_OFF and TRIPPED, up to 180, and at
180 MIN_OFF becomes STOPPED; every trip grows a second older, and one that reaches 3600 s leaves the history, LOCKOUT as
it was (R151, R152, R153, R159). The model's choices that it rests on: notes/assumptions/8, 11, 22. -/
def Obligations.OutdoorTicksStopTheCompressor : Prop :=
  ∀ s : State, Ticking s → s.role = .outdoor →
    (∃ t, exec .secondTick s = .next t ∧
      t.outdoor.trips = (s.outdoor.trips.map (· + 1)).filter (· < 3600) ∧ t.outdoor.lockout = s.outdoor.lockout ∧
      (s.outdoor.comp = .minOff →
        t.outdoor.comp = (if 179 ≤ s.outdoor.offTimer then .stopped else .minOff) ∧
          t.outdoor.offTimer = min 180 (s.outdoor.offTimer + 1) ∧ t.outdoor.speed = s.outdoor.speed) ∧
      (s.outdoor.comp = .tripped →
        t.outdoor.comp = .tripped ∧ t.outdoor.offTimer = min 180 (s.outdoor.offTimer + 1) ∧
          t.outdoor.speed = s.outdoor.speed)) ∧
    (s.outdoor.comp = .minOff → 179 ≤ s.outdoor.offTimer →
      ∃ t, exec .minOffEnd s = .next t ∧ TickedAs .minOffEnd s t ∧
        t.outdoor.comp = .stopped ∧ t.outdoor.offTimer = 180 ∧ t.outdoor.speed = s.outdoor.speed) ∧
    (s.outdoor.comp.isRunning = true → s.health.plant.coilFrost.value = true → 299 ≤ s.outdoor.frostStop →
      ∃ t, exec .frostStop s = .next t ∧ TickedAs .frostStop s t ∧
        t.outdoor.comp = .minOff ∧ t.outdoor.speed = 0 ∧ t.outdoor.offTimer = 0 ∧ t.outdoor.runTimer = 0 ∧
        t.outdoor.frostStop = 0 ∧ t.outdoor.side = none ∧ t.outdoor.defrost = .normal ∧
        t.out.compressor = ⟨0, 0, false⟩ ∧ (t.out.fan.on = false ∨ t.out.fan.held = some false)) ∧
    ((s.outdoor.comp = .running ∨ s.outdoor.comp = .stoppingMinRun) →
      s.health.plant.coilFrost.value = false ∨ s.outdoor.frostStop < 299 →
      s.outdoor.ct = 0 → defrostAfterTick s = .normal → 119 ≤ s.outdoor.runTimer →
      ∃ t, exec .normalStop s = .next t ∧ TickedAs .normalStop s t ∧
        t.outdoor.comp = .minOff ∧ t.outdoor.speed = 0 ∧ t.outdoor.offTimer = 0 ∧ t.outdoor.runTimer = 0 ∧
        t.outdoor.frostStop = 0 ∧ t.outdoor.side = none ∧ t.out.compressor = ⟨0, 0, false⟩ ∧
        (t.out.fan.on = false ∨ t.out.fan.held = some false)) ∧
    ((∃ a ∈ s.outdoor.trips, 3599 ≤ a) →
      ∃ t, exec .tripAgeExpiry s = .next t ∧ TickedAs .tripAgeExpiry s t ∧
        t.outdoor.trips.length < s.outdoor.trips.length ∧ t.outdoor.lockout = s.outdoor.lockout)

/-- The defrost machine at every second tick. In NORMAL the run accumulator rises while the house is in HEAT and S is
above 0, up to 65535, and the entry count rises at a tick with every condition of R156 and returns to 0 at any other; its
thirtieth tick in a row enters DEFROST. In DEFROST the phase timer rises, and a warm coil or 600 s end the phase with the
accumulator at 0; in DRIP it rises to 30, which ends the defrost. A stop of the compressor at the same tick leaves NORMAL
(R156, R157). The end of DRIP requests the fan on, and a stop of the same tick requests it off after that, so a fan whose
2 s have passed comes on, with the request for off held (R151, R155, R157, R169). A row that names such a tick is that tick. The model's choices that it rests on: notes/assumptions/8, 11,
22, 28. -/
def Obligations.DefrostRunsItsPhases : Prop :=
  ∀ s : State, Ticking s → s.role = .outdoor →
    let o := s.outdoor
    let heats := s.coll.state.mode = .heat ∧ 0 < o.speed
    let acc := if heats then min 65535 (o.accumulator + 1) else o.accumulator
    let iced : Bool :=
      match (consumed s).tempA, (consumed s).tempB with
      | some air, some coil => decide (coil ≤ -30 ∧ coil ≤ air - 60)
      | _, _ => false
    let qualifies := heats ∧ (s.rst.parameter.toNat + 2) * 600 ≤ acc ∧ iced = true
    let enters := o.defrost = .normal ∧ qualifies ∧ 29 ≤ o.entryCount
    let melts := o.defrost = .defrost ∧ (atLeast (consumed s).tempB 120 = true ∨ 599 ≤ o.phase)
    let drains := o.defrost = .drip ∧ 29 ≤ o.phase
    (∃ t, exec .secondTick s = .next t ∧
      t.outdoor.accumulator = (if melts then 0 else if o.defrost = .normal then acc else o.accumulator) ∧
      t.outdoor.entryCount =
        (if o.defrost = .normal then (if qualifies ∧ o.entryCount < 29 then o.entryCount + 1 else 0)
        else o.entryCount) ∧
      (t.outdoor.comp.isRunning = true ∨ o.comp.isRunning = false ∧ o.frostStop = 0 →
        t.outdoor.defrost = (if enters then .defrost else if melts then .drip else if drains then .normal else o.defrost) ∧
          t.outdoor.phase =
            (if enters ∨ melts ∨ drains then 0 else if o.defrost = .normal then o.phase else o.phase + 1)) ∧
      (o.comp.isRunning = true → t.outdoor.comp.isRunning = false →
        t.outdoor.defrost = .normal ∧ t.outdoor.phase = 0)) ∧
    (enters → ∃ t, exec .defrostEntry s = .next t ∧ TickedAs .defrostEntry s t ∧ t.outdoor.entryCount = 0) ∧
    (melts → ∃ t, exec .defrostEnd s = .next t ∧ TickedAs .defrostEnd s t ∧ t.outdoor.accumulator = 0) ∧
    (drains →
      ∃ t, exec .dripEnd s = .next t ∧ TickedAs .dripEnd s t ∧ t.outdoor.accumulator = o.accumulator ∧
        (t.outdoor.comp.isRunning = true → t.outdoor.defrost = .normal) ∧
        (o.comp.isRunning = true → s.out.fan.on = false → 2000000 ≤ (consumed s).timers.fan.us →
          t.out.fan = ⟨true, if t.outdoor.comp.isRunning = true then none else some false⟩ ∧
            t.timers.fan = ⟨true, 0⟩))

/-- The compressor at a second tick in a running state, with the defrost state that the tick leaves: S moves toward the
ramp target by at most 4 up and 8 down, the duty of 10 × S permille is written, and the machine moves: to a stop at a
frost stop count of 300; from STARTING to RUNNING at the ramp target; from STARTING or RUNNING, at a capacity target of
0 in NORMAL, to a stop after 120 s of running and to STOPPING_MIN_RUN before; from there back to RUNNING at a target
above 0, and to a stop at 120 s in NORMAL. In STOPPED it starts exactly under the conditions of R150, at 30 % and one
step up, clearing the trip hold mark (R150 to R152, R166). At the start and at each tick in a running state the valve is
requested to the position of R154's table, and no request is made in OFF or FAN; otherwise it holds. The fan is requested
on in a running state with the defrost state NORMAL, and off otherwise: at a tick that changes the defrost state once
before the compressor machine acts, and at every tick after it (R151, R154, R155, R169). The model's choices that it
rests on: that a tick which stops the machine makes its valve request (notes/assumptions/22), and that the fan is
requested again at ticks that change neither state (notes/assumptions/25). The others: notes/assumptions/8, 11. -/
def Obligations.CompressorRampsAndStarts : Prop :=
  ∀ s : State, Ticking s → s.role = .outdoor →
    let f := s.health.plant
    let m := s.coll.state.mode
    let cap := if f.coilFrost.value = true then 30 else if f.supplyHot.value = true ∧ m = .heat then 50 else 100
    let phase := defrostAfterTick s
    let target :=
      match phase with
      | .defrost => 60
      | .drip => 30
      | .normal => if 0 < s.outdoor.ct then min s.outdoor.ct cap else 30
    let next (n : Nat) := if n < target then min (n + 4) target else max (n - 8) target
    let run := min 120 (s.outdoor.runTimer + 1)
    let frost := if f.coilFrost.value = true then min 300 (s.outdoor.frostStop + 1) else 0
    let idle := s.outdoor.ct = 0 ∧ phase = .normal
    let minRun : CompState := if 120 ≤ run then .minOff else .stoppingMinRun
    let valve : Option Bool :=
      match phase with
      | .defrost => some true
      | .drip => some false
      | .normal => if m = .cool ∨ m = .dry then some true else if m = .heat then some false else none
    let u := consumed s
    let moved : Switched :=
      if phase = s.outdoor.defrost then s.out.fan
      else s.out.fan.request (s.outdoor.comp.isRunning && decide (phase = .normal)) u.timers.fan.us
    let movedTimer : Timer := if moved.on = s.out.fan.on then u.timers.fan else ⟨true, 0⟩
    let fanFollows (t : State) : Prop :=
      t.out.fan = moved.request (t.outdoor.comp.isRunning && decide (t.outdoor.defrost = .normal)) movedTimer.us ∧
        t.timers.fan = (if t.out.fan.on = moved.on then movedTimer else ⟨true, 0⟩)
    let valveAsked (t : State) : Prop :=
      t.out.valve = (match valve with | some x => s.out.valve.request x u.timers.valve.us | none => s.out.valve) ∧
        t.timers.valve = (if t.out.valve.on = s.out.valve.on then u.timers.valve else ⟨true, 0⟩)
    (s.outdoor.comp.isRunning = true →
      ∃ t, exec .secondTick s = .next t ∧
        t.outdoor.comp =
          (if frost = 300 then .minOff
          else
            match s.outdoor.comp with
            | .starting => if next s.outdoor.speed = target then .running else if idle then minRun else .starting
            | .running => if idle then minRun else .running
            | _ => if 0 < s.outdoor.ct then .running else if idle ∧ 120 ≤ run then .minOff else .stoppingMinRun) ∧
        (t.outdoor.comp.isRunning = true →
          t.outdoor.speed = next s.outdoor.speed ∧ t.outdoor.runTimer = run ∧ t.outdoor.frostStop = frost ∧
            t.outdoor.side = s.outdoor.side ∧ t.outdoor.defrost = phase ∧
            (s.out.tripHold = false →
              t.out.compressor = ⟨s.out.compressor.applied, 10 * t.outdoor.speed, true⟩)) ∧
        (t.outdoor.comp.isRunning = false →
          t.outdoor.comp = .minOff ∧ t.outdoor.speed = 0 ∧ t.outdoor.offTimer = 0 ∧
            (frost < 300 → exec .normalStop s = .next t) ∧ (frost = 300 → exec .frostStop s = .next t)) ∧
        fanFollows t ∧ valveAsked t) ∧
    (s.outdoor.comp = .stopped → s.outdoor.defrost = .normal → s.outdoor.frostStop = 0 → s.outdoor.speed = 0 →
      let starts := 0 < s.outdoor.ct ∧ (m = .cool ∨ m = .dry ∨ m = .heat) ∧ s.out.tripActive = false ∧
        s.outdoor.lockout = false ∧ (m = .cool ∨ m = .dry → f.fanRun.value = true ∧ f.overflow.value = false)
      ∃ t, exec .secondTick s = .next t ∧
        (starts →
          t.outdoor.comp = (if next 30 = target then .running else .starting) ∧ t.outdoor.speed = next 30 ∧
            t.out.tripHold = false ∧
            t.outdoor.side = some (if m = .heat then .heating else .cooling) ∧ t.outdoor.runTimer = 1 ∧
            valveAsked t) ∧
        (¬ starts →
          t.outdoor.comp = .stopped ∧ t.outdoor.speed = 0 ∧ t.out.compressor = s.out.compressor ∧
            t.out.valve = s.out.valve ∧ t.timers.valve = u.timers.valve) ∧
        fanFollows t)

/-! ### Keys -/

/-- One sample of the keys debounces each of them by the table of R78: the first two samples set the state, and from
then on a level is recognised when it equals the sample before. A sample that recognises nothing at any key changes only
the debouncers and the sampling clock. The model's choices that it rests on: notes/assumptions/2, 12. -/
def Obligations.KeySampleDebounces : Prop :=
  ∀ (s : State) (x : KeySample), s.timers.keyClock.running = true →
    let s1 := elapseTo s.timers.keyClock 16000 s
    let after (k : KeyBlock) (level : Bool) : KeyBlock :=
      match k.samples with
      | [] => ⟨.blocked, [level]⟩
      | [y] => ⟨if level = true ∨ y = true then .blocked else .released, [level, y]⟩
      | y :: _ =>
        ⟨if level = y then
            (match k.state, level with
            | .released, true => .pressed
            | .pressed, true => .pressed
            | .blocked, true => .blocked
            | _, false => .released)
          else k.state, [level, y]⟩
    ∃ t, exec (.keySample x) s = .next t ∧
      t.zone.up = after s.zone.up x.up ∧ t.zone.down = after s.zone.down x.down ∧
      t.zone.mode = after s.zone.mode x.mode ∧ t.timers.keyClock = ⟨true, 0⟩ ∧
      { t with
        zone := { t.zone with settings := s.zone.settings, up := s.zone.up, down := s.zone.down, mode := s.zone.mode }
        timers :=
          { t.timers with
            keyClock := s1.timers.keyClock, chord := s1.timers.chord, modeHold := s1.timers.modeHold } } = s1 ∧
      (s.recognitionAt .up x = .nothing → s.recognitionAt .down x = .nothing → s.recognitionAt .mode x = .nothing →
        t.zone.settings = s.zone.settings ∧ t.timers.chord = s1.timers.chord ∧ t.timers.modeHold = s1.timers.modeHold)

/-- A press of Up or of Down alone moves the set points once, by the zone setting in force and within ranges and gap
rule, from the entry to LISTEN on; the chord timer starts when the other key is PRESSED already, unless it has reached
the 2.0 s of a chord reset (R74, R79, R82). The model's choices that it rests on: notes/assumptions/2, 8, 12. -/
def Obligations.PressMovesTheSetPoints : Prop :=
  ∀ (s : State) (x : KeySample), s.timers.keyClock.running = true → s.health.link ≠ .quiet →
    s.recognitionAt .mode x = .nothing →
    let z := s.zone.settings
    let s1 := elapseTo s.timers.keyClock 16000 s
    let chord : Timer :=
      if s1.timers.chord.running = true ∧ 2000000 ≤ s1.timers.chord.us then s1.timers.chord else ⟨true, 0⟩
    let up5 := fun lo hi v : Int => max lo (min hi (v + 5))
    let down5 := fun lo hi v : Int => max lo (min hi (v - 5))
    (s.recognitionAt .up x = .press → s.recognitionAt .down x = .nothing →
      ∃ t, exec (.keyPress .up x) s = .next t ∧ exec (.keySample { x with downFirst := false }) s = .next t ∧
        t.zone.up.state = .pressed ∧
        (s.zone.down.state = .pressed → t.zone.down.state = .pressed → t.timers.chord = chord) ∧
        t.zone.settings =
          (match z.setting with
          | .auto =>
            { z with
              sc := up5 180 320 z.sc
              sh := if up5 180 320 z.sc - up5 100 280 z.sh < 20 then up5 180 320 z.sc - 20 else up5 100 280 z.sh }
          | .coolOnly =>
            { z with sc := up5 180 320 z.sc, sh := if up5 180 320 z.sc - z.sh < 20 then up5 180 320 z.sc - 20 else z.sh }
          | .heatOnly =>
            { z with sh := up5 100 280 z.sh, sc := if z.sc - up5 100 280 z.sh < 20 then up5 100 280 z.sh + 20 else z.sc }
          | .off => z)) ∧
    (s.recognitionAt .down x = .press → s.recognitionAt .up x = .nothing →
      ∃ t, exec (.keyPress .down x) s = .next t ∧ exec (.keySample { x with downFirst := true }) s = .next t ∧
        t.zone.down.state = .pressed ∧
        (s.zone.up.state = .pressed → t.zone.up.state = .pressed → t.timers.chord = chord) ∧
        t.zone.settings =
          (match z.setting with
          | .auto =>
            { z with
              sh := down5 100 280 z.sh
              sc := if down5 180 320 z.sc - down5 100 280 z.sh < 20 then down5 100 280 z.sh + 20 else down5 180 320 z.sc }
          | .coolOnly =>
            { z with
              sc := down5 180 320 z.sc, sh := if down5 180 320 z.sc - z.sh < 20 then down5 180 320 z.sc - 20 else z.sh }
          | .heatOnly =>
            { z with
              sh := down5 100 280 z.sh, sc := if z.sc - down5 100 280 z.sh < 20 then down5 100 280 z.sh + 20 else z.sc }
          | .off => z))

/-- The Mode key and the releases, each recognised alone: a press starts the Mode hold timer, a release at a time up to
3.0 s steps the zone setting, a release after that, or with the timer stopped, does nothing to it, and a release of Up
or Down before 2.0 s stops the chord timer, and after that leaves it to its chord reset. At 3.0 s the zone offers
SET_COOL and SET_HEAT with its set points, both or neither: they join the tail of the queue in a JOINED or HOLDOVER
station with at most 2 entries queued (R80, R81, R82, R173). The model's choices that it rests on: notes/assumptions/2,
8, 28. -/
def Obligations.ModeKeyStepsAndOffers : Prop :=
  (∀ (s : State) (x : KeySample), s.timers.keyClock.running = true → s.health.link ≠ .quiet →
    let s1 := elapseTo s.timers.keyClock 16000 s
    let long := s1.timers.modeHold.running = true ∧ 3000000 < s1.timers.modeHold.us
    let chord : Timer :=
      if s1.timers.chord.running = true ∧ 2000000 ≤ s1.timers.chord.us then s1.timers.chord else ⟨false, 0⟩
    (s.recognitionAt .up x = .nothing → s.recognitionAt .down x = .nothing →
      (s.recognitionAt .mode x = .press →
        ∃ t, exec (.modePressRecognition x) s = .next t ∧ exec (.keySample x) s = .next t ∧ t.zone.mode.state = .pressed ∧
          t.timers.modeHold = (if long then s1.timers.modeHold else ⟨true, 0⟩) ∧
          t.zone.settings = s.zone.settings) ∧
      (s.recognitionAt .mode x = .release → s.timers.modeHold.running = true → ¬ long →
        ∃ t, exec (.modeShortPress x) s = .next t ∧ exec (.keySample x) s = .next t ∧ t.zone.mode.state = .released ∧
          t.timers.modeHold = ⟨false, 0⟩ ∧
          t.zone.settings =
            { s.zone.settings with
              setting :=
                match s.zone.settings.setting with
                | .auto => .coolOnly
                | .coolOnly => .heatOnly
                | .heatOnly => .off
                | .off => .auto }) ∧
      (s.recognitionAt .mode x = .release → s.timers.modeHold.running = false ∨ long →
        exec (.modeShortPress x) s = .next s ∧
        ∃ t, exec (.keyRelease .mode x) s = .next t ∧ exec (.keySample x) s = .next t ∧ t.zone.mode.state = .released ∧
          t.timers.modeHold = (if long then s1.timers.modeHold else ⟨false, 0⟩) ∧
          t.zone.settings = s.zone.settings)) ∧
    (s.recognitionAt .mode x = .nothing → s.recognitionAt .down x = .nothing → s.recognitionAt .up x = .release →
      ∃ t, exec (.keyRelease .up x) s = .next t ∧ exec (.keySample x) s = .next t ∧ t.zone.up.state = .released ∧
        t.timers.chord = chord ∧ t.zone.settings = s.zone.settings) ∧
    (s.recognitionAt .mode x = .nothing → s.recognitionAt .up x = .nothing → s.recognitionAt .down x = .release →
      ∃ t, exec (.keyRelease .down x) s = .next t ∧ exec (.keySample x) s = .next t ∧ t.zone.down.state = .released ∧
        t.timers.chord = chord ∧ t.zone.settings = s.zone.settings)) ∧
  ∀ s : State, s.timers.modeHold.running = true →
    let s1 := elapseTo s.timers.modeHold 3000000 s
    exec .modeLongPress s =
      .next
        { s1 with
          timers := { s1.timers with modeHold := ⟨false, 0⟩ }
          dir :=
            { s.dir with
              queue :=
                if (s.health.link = .joined ∨ s.health.link = .holdover) ∧ s.dir.queue.length ≤ 2 then
                  s.dir.queue ++
                    [⟨0x01, tempCode s.zone.settings.sc, 0, 0⟩, ⟨0x02, tempCode s.zone.settings.sh, 0, 0⟩]
                else s.dir.queue } }

/-! ### The damper -/

/-- A feedback pulse of a zone whose first homing has begun: the position counter moves by 1 in the direction of the
last drive within 0..400, a pulse in a drive restarts the stall timer, and in HOLD, OPENING, CLOSING and a PAUSE that
does not lead into homing the position is compared with the target in effect: the machine holds, drives on or drives
back, at once where the direction is that of the last drive or the motor has rested 200 ms, and over PAUSE otherwise.
Before the first homing a pulse is not counted (R120 to R123). The model's choices that it rests on:
notes/assumptions/1, 28. -/
def Obligations.PulseMovesThePosition : Prop :=
  ∀ s : State, s.role = .zone →
    (s.damper.machine = .parked → exec .damperPulse s = .next s) ∧
    (s.damper.machine ≠ .parked →
      ∃ t, exec .damperPulse s = .next t ∧
        t.damper.position =
          (if s.damper.lastDrive = .opening then min 400 (s.damper.position + 1) else s.damper.position - 1) ∧
        (DamperSound s →
          DamperCompared ((s.damper.target : Int) - t.damper.position) s t ∧
            t.timers.stall =
              (if t.damper.machine.driving = true then ⟨true, 0⟩
              else if s.damper.machine.driving = true then ⟨false, 0⟩
              else s.timers.stall)) ∧
        { t.damper with
          position := s.damper.position, machine := s.damper.machine, lastDrive := s.damper.lastDrive
          homingPause := s.damper.homingPause, stalls := s.damper.stalls } = s.damper ∧
        { t.timers with
          stall := s.timers.stall, motorRest := s.timers.motorRest, bridgeDead := s.timers.bridgeDead } = s.timers ∧
        { t with damper := s.damper, timers := s.timers, out := { t.out with bridge := s.out.bridge } } = s)

/-- The stall timer reaches 500 ms while a drive runs: the motor stops; in HOMING it completes homing, in CLOSING at 40
or less it is a re-zero, and otherwise it is counted, into RETRY for the first two and into FAULT for the third (R123,
R124, R125, R126). The model's choices that it rests on: notes/assumptions/2, 15, 28. -/
def Obligations.StallIsHandledByState : Prop :=
  ∀ s : State,
    let s1 := elapseTo s.timers.stall 500000 s
    let rest (t : State) : Prop :=
      t.damper.target = s.damper.target ∧ t.damper.pending = s.damper.pending ∧ t.damper.request = s.damper.request ∧
        { t with damper := s1.damper, timers := s1.timers, out := { t.out with bridge := s1.out.bridge } } = s1
    (s.damper.machine = .homing → s.damper.lastDrive = .closing →
      ∃ t, exec .stall s = .next t ∧ t.damper.position = 0 ∧ t.damper.homed = true ∧ t.damper.stalls = 0 ∧
        t.timers.homing = ⟨false, 0⟩ ∧ t.out.bridge.asked = none ∧ t.out.bridge.conducting = none ∧
        t.damper.machine = (if s.damper.target ≤ 2 then .hold else .pause) ∧ t.damper.fault = s.damper.fault ∧ rest t) ∧
    (s.damper.machine = .closing → s.damper.lastDrive = .closing → s.damper.position ≤ 40 →
      ∃ t, exec .stall s = .next t ∧ t.damper.position = 0 ∧ t.damper.stalls = 0 ∧ t.damper.homed = s.damper.homed ∧
        t.out.bridge.asked = none ∧ t.out.bridge.conducting = none ∧
        t.damper.machine = (if s.damper.target ≤ 2 then .hold else .pause) ∧ t.damper.fault = s.damper.fault ∧ rest t) ∧
    (s.damper.machine = .opening ∨ s.damper.machine = .closing ∧ 40 < s.damper.position →
      ∃ t, exec .stall s = .next t ∧ t.damper.position = s.damper.position ∧ t.damper.homed = s.damper.homed ∧
        t.out.bridge.asked = none ∧ t.out.bridge.conducting = none ∧ t.timers.stall = ⟨false, 0⟩ ∧
        (s.damper.stalls < 2 →
          t.damper.machine = .retry ∧ t.damper.stalls = s.damper.stalls + 1 ∧ t.timers.retry = ⟨true, 0⟩ ∧
            t.damper.fault = s.damper.fault) ∧
        (2 ≤ s.damper.stalls → t.damper.machine = .fault ∧ t.damper.stalls = 3 ∧ t.damper.fault = true) ∧ rest t)

/-- The waits of the damper machine end: the reversal pause into homing or into a drive toward the target, the retry
wait into a drive toward the target, and a homing that has not found the stop in 30 s into FAULT with the homing mark
clear (R122, R125, R126, R127). The model's choices that it rests on: notes/assumptions/2, 15, 28. -/
def Obligations.DamperWaitsEnd : Prop :=
  ∀ s : State,
    let d : Int := (s.damper.target : Int) - s.damper.position
    let toward (t : State) : Prop :=
      t.damper.machine = (if -2 ≤ d ∧ d ≤ 2 then .hold else if 2 < d then .opening else .closing) ∧
        t.out.bridge.asked =
          (if -2 ≤ d ∧ d ≤ 2 then s.out.bridge.asked else if 2 < d then some .opening else some .closing) ∧
        t.damper.position = s.damper.position ∧ t.damper.fault = s.damper.fault ∧ t.damper.homed = s.damper.homed
    (s.damper.machine = .pause → s.damper.homingPause = true →
      ∃ t, exec .pauseEnd s = .next t ∧ t.damper.machine = .homing ∧ t.damper.lastDrive = .closing ∧
        t.out.bridge.asked = some .closing ∧ t.timers.stall = ⟨true, 0⟩ ∧ t.damper.position = s.damper.position) ∧
    (s.damper.machine = .pause → s.damper.homingPause = false → s.timers.motorRest.running = true →
      ∃ t, exec .pauseEnd s = .next t ∧ toward t) ∧
    (s.damper.machine = .retry → s.timers.motorRest = s.timers.retry → s.timers.retry.running = true →
      ∃ t, exec .retryEnd s = .next t ∧ toward t ∧ t.timers.retry = ⟨false, 0⟩) ∧
    (s.damper.seeking = true →
      ∃ t, exec .homingTimeout s = .next t ∧ t.damper.machine = .fault ∧ t.damper.fault = true ∧
        t.damper.homed = s.damper.homed ∧ (s.damper.Sound → t.damper.homed = false) ∧ t.timers.homing = ⟨false, 0⟩ ∧
        (s.damper.machine = .homing → t.out.bridge.asked = none ∧ t.out.bridge.conducting = none) ∧
        t.damper.position = s.damper.position ∧ t.zone = s.zone)

/-- A zone at an accepted round handed on: its call is served where the adopted mode matches it and the plant serves
that mode with no TEST in the view; A takes the error of a served COOL or HEAT call, and D follows from it, or for DRY
from the humidity; without a valid reading they stay. Then the request by the mode, the grant from the view's own slot,
Rtot and Fcap, and the position and pending target. The settings are those of before the round's directive. The grants
of the zones never sum to more than the ceiling, and none exceeds its request (R86 to R89, R114, R116 to R119). The
model's choices that it rests on: notes/assumptions/7, 10. -/
def Obligations.ZoneWorksAtARound : Prop :=
  (∀ (s : State) (w : Window), HandedOn w s → s.role = .zone →
    let v := viewOf w.data
    let z := s.zone.settings
    let call := s.zone.call
    let qz := 16 * s.rst.parameter.toNat
    let rtot := ((List.range 12).map fun i => (slotByte v.share (i + 3)).toNat).sum
    let fcap := if v.pres.getLsbD 2 = true then 8 * (slotByte v.share 2).toNat else 0
    let rv := (slotByte v.share s.rst.address.toNat).toNat
    ∃ t, exec (.roundEnd w) s = .next t ∧
      (let m := t.coll.state.mode
       let f := t.health.plant
       let fits :=
         m = .fan ∧ call ≠ .none ∨ (m = .dry ∨ m = .cool) ∧ (call = .cool ∨ call = .dry) ∨ m = .heat ∧ call = .heat
       t.zone.call = call ∧
       t.zone.served =
         decide (fits ∧ f.fanRun.value = true ∧ v.flags.getLsbD 1 = false ∧
           (m = .fan ∨ f.compRun.value = true ∧ f.defrost.value = false)) ∧
       (call = .none → t.zone.a = s.zone.a ∧ t.zone.d = 0) ∧
       (call = .dry → t.zone.a = s.zone.a ∧
         (∀ rh, s.roomHumidity = some rh → (t.zone.d : Int) = max 4 (min 32 ((rh - z.hl) / 5))) ∧
         (s.roomHumidity = none → t.zone.d = s.zone.d)) ∧
       (call = .cool ∨ call = .heat →
         (s.tempA = none → t.zone.a = s.zone.a ∧ t.zone.d = s.zone.d) ∧
         ∀ tm, s.tempA = some tm →
           let e := if call = .cool then tm - z.sc else z.sh - tm
           (t.zone.a : Int) =
               (if t.zone.served = true then max 0 (min 1008 ((s.zone.a : Int) + max (-20) (min 20 e)))
               else s.zone.a) ∧
             (t.zone.d : Int) = max 1 (min 63 (2 * (e + 5) + (t.zone.a / 16 : Nat)))) ∧
       t.damper.request = (if fits then (t.zone.d * qz * (if m = .dry then 5 else 8) + 252) / 504 else 0) ∧
       t.damper.grant = (if fcap = 0 then 0 else if rtot ≤ fcap then rv else rv * fcap / rtot) ∧
       t.damper.percent =
         (if m = .off ∨ fcap = 0 then 100
         else if t.damper.request = 0 then 0
         else max 15 (min 100 ((100 * t.damper.grant + qz - 1) / qz))) ∧
       t.damper.pending = 4 * t.damper.percent ∧ t.damper.target = s.damper.target)) ∧
  ∀ (rs : List Nat) (fcap : Nat),
    let grant (r : Nat) : Nat := if fcap = 0 then 0 else if rs.sum ≤ fcap then r else r * fcap / rs.sum
    (rs.map grant).sum ≤ fcap ∧ ∀ r ∈ rs, grant r ≤ r

/-- The handler at an accepted round handed on: the cold-blow hold starts at the first round in HEAT whose filtered
COMP_RUN is set against a clear record, is cancelled out of HEAT or without COMP_RUN, and the record follows COMP_RUN;
then the blower target by the table of R133, the pending duty and the pending bypass position. Nothing else of the
handler logic changes, and no output (R131 to R134, R136, R137). The model's choices that it rests on:
notes/assumptions/7, 27. -/
def Obligations.HandlerWorksAtARound : Prop :=
  ∀ (s : State) (w : Window), HandedOn w s → s.role = .handler →
    let v := viewOf w.data
    let rtot := ((List.range 12).map fun i => (slotByte v.share (i + 3)).toNat).sum
    let fcap := 64 * (s.rst.parameter.toNat + 1)
    let fmin := 3 * fcap / 8
    let air := min rtot fcap
    ∃ t, exec (.roundEnd w) s = .next t ∧
      (let m := t.coll.state.mode
       let f := t.health.plant
       let starts := m = .heat ∧ f.compRun.value = true ∧ s.handler.compRecord = false
       let cancelled := s.handler.holdActive = true ∧ (m ≠ .heat ∨ f.compRun.value = false)
       let fb := t.handler.fb
       t.handler.holdActive = (if starts then true else if cancelled then false else s.handler.holdActive) ∧
       t.handler.holdCount = (if starts ∨ cancelled then 0 else s.handler.holdCount) ∧
       t.handler.compRecord = f.compRun.value ∧
       fb =
         (if m = .off ∨ rtot = 0 then 0
         else if f.defrost.value = true then fmin
         else if f.hpTrip.value = true ∧ m = .heat then fcap
         else if t.handler.holdActive = true then 0
         else max fmin (min fcap air)) ∧
       t.handler.pendingDuty = (2000 * fb + fcap) / (2 * fcap) ∧
       t.handler.pendingBypass = (if air < fb then min 100 ((100 * (fb - air) + fcap / 2 - 1) / (fcap / 2)) else 0) ∧
       { t.handler with
         holdActive := s.handler.holdActive, holdCount := s.handler.holdCount, compRecord := s.handler.compRecord
         fb := s.handler.fb, pendingDuty := s.handler.pendingDuty, pendingBypass := s.handler.pendingBypass } =
         s.handler ∧
       t.out = s.out ∧ t.zone = s.zone ∧ t.damper = s.damper ∧ t.outdoor = s.outdoor)

/-- The outdoor station at an accepted round handed on: the pending capacity target is worked out by the table of R147.
At a round that executes no FORCE_DEFROST, a running compressor is stopped at once on OFF or FAN, on a mode of the other
side, and on OVERFLOW in COOL or DRY; a defrost is aborted by such a stop and by a mode other than HEAT, its accumulator
kept; nothing else of machine and channel changes; and the fan is asked for what the machines then want (R147, R152,
R153, R155, R157, R165). That the fan is asked also at a round that changes neither the machine's nor the defrost state,
where R155 names no request, is the model's choice (notes/assumptions/25). The others that it rests on:
notes/assumptions/7, 28. -/
def Obligations.OutdoorWorksAtARound : Prop :=
  ∀ (s : State) (w : Window), HandedOn w s → s.role = .outdoor →
    let v := viewOf w.data
    let rtot := ((List.range 12).map fun i => (slotByte v.share (i + 3)).toNat).sum
    let fcap := if v.pres.getLsbD 2 = true then 8 * (slotByte v.share 2).toNat else 0
    let s1 := elapseTo s.timers.round (Config.bitsUs 482) s
    ∃ t, exec (.roundEnd w) s = .next t ∧
      (let m := t.coll.state.mode
       let f := t.health.plant
       let o := s.outdoor
       let share := max 30 (min 100 ((100 * min rtot fcap + fcap - 1) / fcap))
       let peak := if m = .cool then v.peakc.toNat else v.peakh.toNat
       let forced :=
         o.comp.isRunning = true ∧
           (m = .off ∨ m = .fan ∨ m = .heat ∧ o.side = some .cooling ∨
             (m = .cool ∨ m = .dry) ∧ (o.side = some .heating ∨ f.overflow.value = true))
       let wanted := t.outdoor.comp.isRunning && decide (t.outdoor.defrost = .normal)
       t.outdoor.pendingCt =
           (if m = .off ∨ m = .fan ∨ fcap = 0 ∨ rtot = 0 then 0
           else if m = .dry then 40
           else if share < 70 ∧ 48 ≤ peak then 70
           else share) ∧
         t.outdoor.ct = s.outdoor.ct ∧
         ((∀ d, ThirdReception d w s → d.code ≠ 0x23) →
           { t.outdoor with pendingCt := o.pendingCt, trips := o.trips, lockout := o.lockout } =
               (if forced then
                 { o with
                   comp := .minOff, speed := 0, side := none, runTimer := 0, offTimer := 0, frostStop := 0
                   defrost := .normal, phase := 0 }
               else if m ≠ .heat ∧ o.defrost ≠ .normal then { o with defrost := .normal, phase := 0 }
               else o) ∧
             t.out.compressor = (if forced then ⟨0, 0, false⟩ else s.out.compressor) ∧
             t.out.fan = s.out.fan.request wanted s1.timers.fan.us ∧
             t.timers.fan = (if t.out.fan.on = s.out.fan.on then s1.timers.fan else ⟨true, 0⟩) ∧
             { t.out with compressor := s.out.compressor, fan := s.out.fan } = s.out))

/-! ### Output stages -/

/-- A request to a switched output for the applied level empties a held request; one for the other level is held while
the interval timer is below 2 s, and applied at once at 2 s. A period of a PWM channel ends: a pending staged duty is
applied and the pending mark cleared, without one the applied duty stays. The interval of a switched output ends: a held
request is applied, and its timer restarts when that changes the level. The blink clock turns every 500 ms. Nothing else
changes (R164, R169, R170). The model's choices that it rests on: notes/assumptions/2, 19. -/
def Obligations.PeriodsAndIntervalsEnd : Prop :=
  (∀ (x : Switched) (level : Bool) (us : Nat),
    x.request level us =
      (if level = x.on then ⟨x.on, none⟩ else if us < 2000000 then ⟨x.on, some level⟩ else ⟨level, none⟩)) ∧
  (∀ (s : State) (c : PwmChannel), (s.pwmTimer c).running = true →
    let s1 := elapseTo (s.pwmTimer c) 1000 s
    ∃ t, exec (.pwmPeriodEnd c) s = .next t ∧
      t.out.pwm c =
        (if (s.out.pwm c).pending = true then ⟨(s.out.pwm c).staged, (s.out.pwm c).staged, false⟩ else s.out.pwm c) ∧
      (∀ c', c' ≠ c → t.out.pwm c' = s.out.pwm c' ∧ t.pwmTimer c' = s1.pwmTimer c') ∧
      t.pwmTimer c = ⟨true, 0⟩ ∧
      { t with
        out := { t.out with blower := s.out.blower, bypass := s.out.bypass, compressor := s.out.compressor }
        timers :=
          { t.timers with
            pwmBlower := s1.timers.pwmBlower, pwmBypass := s1.timers.pwmBypass
            pwmCompressor := s1.timers.pwmCompressor } } = s1) ∧
  ∀ s : State,
    (∀ l : Load,
      let s1 := elapseTo (s.intervalTimer l) 2000000 s
      ((s.out.switched l).held = none → exec (.switchedIntervalEnd l) s = .next s1) ∧
      (∀ level, (s.out.switched l).held = some level →
        ∃ t, exec (.switchedIntervalEnd l) s = .next t ∧
          t.out.switched l = ⟨level, none⟩ ∧
          t.intervalTimer l = (if (s.out.switched l).on = level then s1.intervalTimer l else ⟨true, 0⟩) ∧
          (∀ l', l' ≠ l → t.out.switched l' = s.out.switched l' ∧ t.intervalTimer l' = s1.intervalTimer l') ∧
          { t with
            out := { t.out with valve := s.out.valve, fan := s.out.fan, heater := s.out.heater }
            timers :=
              { t.timers with
                valve := s1.timers.valve, fan := s1.timers.fan, heater := s1.timers.heater } } = s1)) ∧
    (s.timers.blink.running = true →
      let s1 := elapseTo s.timers.blink 500000 s
      exec .blinkClock s =
        .next
          { s1 with
            out := { s1.out with blinkLit := !s.out.blinkLit }
            timers := { s1.timers with blink := ⟨true, 0⟩ } })

/-- A period of the bridge starts: the half asked for begins to conduct, unless the other half stopped conducting less
than 100 µs earlier; a stage asked to stop starts nothing (R168). The model's choices that it rests on:
notes/assumptions/2, 15. -/
def Obligations.BridgeKeepsItsDeadTime : Prop :=
  ∀ s : State, s.timers.bridge.running = true →
    let s1 := elapseTo s.timers.bridge 1000 s
    ∃ t, exec .hbridgePeriodStart s = .next t ∧
      (∀ d, s.out.bridge.asked = some d →
        (s.out.bridge.lastHalf = some d.other ∧ s1.timers.bridgeDead.us < 100 →
          t.out.bridge = s.out.bridge) ∧
        (s.out.bridge.lastHalf ≠ some d.other ∨ 100 ≤ s1.timers.bridgeDead.us →
          t.out.bridge = { s.out.bridge with conducting := some d })) ∧
      (s.out.bridge.asked = none → t.out.bridge = s.out.bridge) ∧
      t.timers.bridge = ⟨true, 0⟩ ∧
      { t with
        out := { t.out with bridge := s.out.bridge }
        timers := { t.timers with bridge := s1.timers.bridge } } = s1


/-- What the lines and pins show in every state. LINE is lit in JOINED, and with the blink clock in HOLDOVER; CALL in a
zone with a call, steadily while it is served and with the blink clock otherwise; FAULT from the latching of the straps
on, steadily under a configuration fault, ADDRESS_CLASH, a channel with fewer than four values, or a zone's damper
fault, and with the blink clock while only a test is latched. A PWM pin is high for the applied duty's part of its
period, and a conducting half of the bridge is on for the first 800 µs. The heater is energised while its output is on
and the applied blower duty is 300 permille or more, from the blower's period end on, which leaves the switched output
alone (R57, R92, R93, R135, R142, R164, R168, R170). The model's choices that it rests on: notes/assumptions/2. -/
def Obligations.IndicatorsAndPinsFollowTheState : Prop :=
  (∀ s : State,
    let standing :=
      s.rst.state = .failed ∨ s.health.addressClash = true ∨ s.meas.a.ring.length < 4 ∨ s.meas.b.ring.length < 4 ∨
        s.role = .zone ∧ s.damper.fault = true
    let latched := s.dir.tests.role ≠ none ∨ s.dir.tests.corrupt = true ∨ s.dir.tests.mute = true
    (s.lit s.lineIndicator = true ↔
      s.health.link = .joined ∨ s.health.link = .holdover ∧ s.out.blinkLit = true) ∧
    (s.lit s.callIndicator = true ↔
      s.role = .zone ∧ s.zone.call ≠ .none ∧ (s.zone.served = true ∨ s.out.blinkLit = true)) ∧
    (s.lit s.faultIndicator = true ↔
      (s.rst.state = .checked ∨ s.rst.state = .failed) ∧ (standing ∨ latched ∧ s.out.blinkLit = true)) ∧
    (∀ c, (s.out.pwm c).pin (s.pwmTimer c) = true ↔ (s.pwmTimer c).us % 1000 < (s.out.pwm c).applied) ∧
    (∀ d, s.bridgePins = some d ↔ s.out.bridge.conducting = some d ∧ s.timers.bridge.us % 1000 < 800) ∧
    (s.heaterEnergised = true ↔ s.out.heater.on = true ∧ 300 ≤ s.out.blower.applied)) ∧
  ∀ s : State, s.timers.pwmBlower.running = true →
    ∃ t, exec (.pwmPeriodEnd .blower) s = .next t ∧
      (let duty := if s.out.blower.pending = true then s.out.blower.staged else s.out.blower.applied
       t.out.blower.applied = duty ∧
         t.heaterEnergised = (s.out.heater.on && decide (300 ≤ duty)) ∧
         t.fanRun = decide (s.role = .handler ∧ 0 < duty) ∧
         t.out.heater = s.out.heater ∧
         t.timers.heater = (elapseTo s.timers.pwmBlower 1000 s).timers.heater)

/-- The trip filter of a HANDLER or OUTDOOR station. A sample at the filtered level clears the run count, one at the
other level raises it, and the eighth in a row changes the filtered level. On the handler OVERFLOW follows. On the
outdoor station a change to active stops and holds the compressor channel, trips the machine, and joins the trip
history, the third trip setting LOCKOUT; a change to inactive lets TRIPPED go to MIN_OFF or STOPPED by the minimum off
timer (R143, R153, R159, R166, R167). The model's choices that it rests on: notes/assumptions/2, 8. -/
def Obligations.EighthTripSampleChangesTheLevel : Prop :=
  ∀ (s : State) (high : Bool), s.timers.tripClock.running = true →
    let s1 := elapseTo s.timers.tripClock 1000 s
    let u : State := { s1 with timers := { s1.timers with tripClock := ⟨true, 0⟩ } }
    let active := (s.role = .handler ∧ high = false) ∨ (s.role = .outdoor ∧ high = true)
    ((active ↔ s.out.tripActive = true) →
      exec (.tripInputSample high) s = .next { u with out := { s.out with tripRun := 0 } }) ∧
    (¬ (active ↔ s.out.tripActive = true) → s.out.tripRun < 7 →
      exec (.tripInputSample high) s = .next { u with out := { s.out with tripRun := s.out.tripRun + 1 } }) ∧
    (¬ (active ↔ s.out.tripActive = true) → s.out.tripRun = 7 →
      ∃ t, exec (.tripInputSample high) s = .next t ∧ exec .tripFilterChange s = .next t ∧
        t.out.tripActive = !s.out.tripActive ∧ t.out.tripRun = 0 ∧
        t.hpTrip = (decide (s.role = .outdoor) && !s.out.tripActive) ∧
        t.overflow = (decide (s.role = .handler) && !s.out.tripActive) ∧
        (s.role ≠ .outdoor → t = { u with out := { s.out with tripActive := !s.out.tripActive, tripRun := 0 } }) ∧
        (s.role = .outdoor → s.out.tripActive = false →
          t.outdoor.comp = .tripped ∧ t.out.compressor = ⟨0, 0, false⟩ ∧ t.out.tripHold = true ∧
            t.outdoor.trips = (if 3 ≤ s.outdoor.trips.length then s.outdoor.trips.tail else s.outdoor.trips) ++ [0] ∧
            t.outdoor.lockout = (s.outdoor.lockout || decide (2 ≤ s.outdoor.trips.length)) ∧
            (s.outdoor.comp.isRunning = true →
              t.outdoor.speed = 0 ∧ t.outdoor.offTimer = 0 ∧ t.outdoor.defrost = .normal ∧ t.outdoor.side = none) ∧
            (s.outdoor.comp.isRunning = false → t.outdoor.offTimer = s.outdoor.offTimer)) ∧
        (s.role = .outdoor → s.out.tripActive = true →
          t.outdoor =
              { s.outdoor with
                comp := if s.outdoor.comp = .tripped then (if s.outdoor.offTimer < 180 then .minOff else .stopped)
                  else s.outdoor.comp } ∧
            t.out.compressor = s.out.compressor ∧ t.out.tripHold = s.out.tripHold) ∧
        { t with
          outdoor := u.outdoor, timers := { t.timers with fan := u.timers.fan }
          out :=
            { t.out with
              tripActive := s.out.tripActive, tripRun := s.out.tripRun, compressor := s.out.compressor
              tripHold := s.out.tripHold, fan := s.out.fan } } = u)

/-! ### The collective mode -/

/-- A view that carries FLAGS.HOLDOVER freezes the proposal at the collective state, mode and hold unchanged; otherwise
a hold above 0 is counted down in the same mode. A hold of h, met by rounds without HOLDOVER that each adopt the
proposal of the round before, runs out at the h-th of them (R98, R99). With no freeze and no hold, the proposal is
worked out from the wanted mode: FAN or OFF while LOCKOUT or OVERFLOW is set in the filtered copy, else by the calls and
peaks in the order of R101; it is turned into a proposal by the table of R102, with (OFF, 0) in place of an active mode
that a warming-up house would enter from OFF (R100 to R103). -/
def Obligations.ProposalFollowsHoldAndCalls : Prop :=
  (∀ (c : Collective) (v : View) (f : PlantFilter),
    (v.flags.getLsbD 2 = true → propose c v f = c) ∧
      (v.flags.getLsbD 2 = false → 0 < c.hold → propose c v f = ⟨c.mode, c.hold - 1⟩) ∧
      ∀ rounds : List (View × PlantFilter), (∀ x ∈ rounds, x.1.flags.getLsbD 2 = false) → rounds.length ≤ c.hold →
        rounds.foldl (fun c x => propose c x.1 x.2) c = ⟨c.mode, c.hold - rounds.length⟩) ∧
  ∀ (c : Collective) (v : View) (f : PlantFilter), v.flags.getLsbD 2 = false → c.hold = 0 →
    let nC := v.nC
    let nH := v.nH
    let nD := v.nD
    let pC := v.peakc.toNat
    let pH := v.peakh.toNat
    let w : Mode :=
      if f.lockout.value = true ∨ f.overflow.value = true then (if nC + nH + nD = 0 then .off else .fan)
      else if nC + nH + nD = 0 then .off
      else if c.mode = .cool ∧ 0 < nC then .cool
      else if c.mode = .heat ∧ 0 < nH then .heat
      else if c.mode = .dry ∧ 0 < nC then .cool
      else if c.mode = .dry ∧ 0 < nD then .dry
      else if 0 < nC + nH then
        (if pH < pC then .cool else if pC < pH then .heat else if nH < nC then .cool
          else if nC < nH then .heat else .cool)
      else .dry
    let p : Collective :=
      if w = c.mode then ⟨c.mode, 0⟩
      else if (c.mode = .cool ∨ c.mode = .dry) ∧ w = .heat ∨ c.mode = .heat ∧ (w = .cool ∨ w = .dry) then ⟨.off, 180⟩
      else if w = .off ∨ w = .fan then ⟨w, 0⟩
      else ⟨w, 300⟩
    propose c v f =
      if v.flags.getLsbD 0 = true ∧ c.mode = .off ∧ (p.mode = .cool ∨ p.mode = .dry ∨ p.mode = .heat) then ⟨.off, 0⟩
      else p

/-! ### Fields on the wire -/

/-- Positions and fields agree: every field reads the data bits of its place in the round, most significant first, and a
slot of SHARE or SLOW the eight bits of its station; the fields of the bits that carry a view are that view, and the
bits that carry the fields of any bits are those bits. STATE, DIRECTIVE and REPLY have the values of their parts, and
STATE and DIRECTIVE unpack to what went in (R19, R20, R25, R29). -/
def Obligations.FieldsPackAndUnpack : Prop :=
  (∀ (x : RoundBits) (i : Nat),
    let v := viewOf x
    (i < 4 → v.idx.getMsbD i = x.getMsbD i) ∧
      (i < 16 → v.pres.getMsbD i = x.getMsbD (4 + i) ∧ v.callc.getMsbD i = x.getMsbD (20 + i) ∧
        v.callh.getMsbD i = x.getMsbD (36 + i) ∧ v.calld.getMsbD i = x.getMsbD (52 + i) ∧
        v.reply.getMsbD i = x.getMsbD (352 + i)) ∧
      (i < 8 → v.peakc.getMsbD i = x.getMsbD (68 + i) ∧ v.peakh.getMsbD i = x.getMsbD (76 + i) ∧
        v.plant.getMsbD i = x.getMsbD (84 + i)) ∧
      (i < 12 → v.state.getMsbD i = x.getMsbD (92 + i) ∧ v.check.getMsbD i = x.getMsbD (372 + i)) ∧
      (i < 112 → v.share.getMsbD i = x.getMsbD (104 + i) ∧ v.slow.getMsbD i = x.getMsbD (216 + i)) ∧
      (i < 24 → v.directive.getMsbD i = x.getMsbD (328 + i)) ∧
      (i < 4 → v.flags.getMsbD i = x.getMsbD (368 + i))) ∧
    (∀ (x : SlotBits) (a i : Nat), 1 ≤ a → a ≤ 14 → i < 8 → (slotByte x a).getMsbD i = x.getMsbD (8 * (a - 1) + i)) ∧
    (∀ v : View, viewOf (bitsOf v) = v) ∧ (∀ x : RoundBits, bitsOf (viewOf x) = x) ∧
    (∀ c : Collective, c.hold ≤ 511 →
      (packState c).toNat =
          512 * (match c.mode with | .off => 0 | .fan => 1 | .dry => 2 | .cool => 3 | .heat => 4) + c.hold ∧
        unpackState (packState c) = some c) ∧
    (∀ (a : Nibble) (r : Reply), (packReply a r).toNat = 4096 * a.toNat + 256 * r.status.toNat + r.data.toNat) ∧
    ∀ d : Directive,
      (packDirective d).toNat =
          1048576 * (15 - d.source.toNat) + 65536 * d.dest.toNat + 256 * d.code.toNat + d.arg.toNat ∧
        unpackDirective (packDirective d) = if d.source = 15 then none else some d

/-- A station sends the bits of its value in a MAX field until it drives recessive and reads dominant, from where on it
drives recessive; that makes its outcome LOST, and WON otherwise. So the wire carries the largest of the values sent,
and a station's outcome is WON exactly when its value equals the wire's: for stations that send `owns`, if every bit of
the wire is dominant exactly where one of them drives it, each by the drop-out rule (R1, R18). The model's choices that
it rests on: notes/assumptions/6. -/
def Obligations.WireCarriesTheLargestValue : Prop :=
  (∀ (w : Nat) (own wire : BitVec w),
    (∀ i < w, (arbitrated own wire).getMsbD i =
      (own.getMsbD i && decide (∀ j < i, wire.getMsbD j = true → own.getMsbD j = true))) ∧
      (arbitrationOf own wire = .won ↔ ∀ j < w, wire.getMsbD j = true → own.getMsbD j = true)) ∧
  ∀ (w : Nat) (owns : List (BitVec w)) (wire : BitVec w), owns ≠ [] →
    (∀ i < w, wire.getMsbD i = owns.any fun own => (arbitrated own wire).getMsbD i) →
    (∀ own ∈ owns, own.toNat ≤ wire.toNat) ∧ wire ∈ owns ∧
      ∀ own ∈ owns, (arbitrationOf own wire = .won ↔ own = wire)

/-! ### Invariants -/

/-- The machine right after reset meets every invariant below. That it stands in ASSERTED with kind SUPPLY by power-on,
and its damper at the position of 100 %, is the model's choice (notes/assumptions/5, 16). -/
def Obligations.ResetMeetsTheInvariants : Prop :=
  State.reset.rst.state = .asserted ∧ State.reset.rst.kind = .supply ∧ State.reset.zone.settings.Sound ∧
    LinkSound State.reset ∧ State.reset.health.CountsSound ∧ State.reset.coll.Sound ∧ UnitSound State.reset ∧
    State.reset.zone.Sound ∧ DamperSound State.reset ∧ CompressorSound State.reset ∧ ChannelSound State.reset ∧
    State.reset.meas.a.Sound ∧ State.reset.meas.b.Sound ∧ State.reset.handler.Sound ∧
    (∀ c, (State.reset.out.pwm c).Sound)

/-- On every station the set points and the humidity limit lie within their ranges and the gap rule holds, in every
state that a step leads to from one in which they do (R74). -/
def Obligations.SettingsStaySound : Prop :=
  ∀ s t : State, s.zone.settings.Sound → step s = .next t → t.zone.settings.Sound

/-- Only a JOINED or HOLDOVER station drives, QUIET is the link state exactly while the straps have not passed and its
receive side is in IDLE, ADDRESS_CLASH holds a station in ISOLATED, a round image is held exactly with drive permission,
and the clash mark is clear while a round is read: every step keeps that (R2, R15, R48, R49, R187). The model's choice
that it rests on: the clash mark moves only at the end of a window (notes/assumptions/7). -/
def Obligations.LinkStaysSound : Prop :=
  ∀ s t : State, LinkSound s → step s = .next t → LinkSound t

/-- The error counts, the consecutive-bad count, the joining count and the clash count stay in their ranges, a JOINED
station has fewer than 4 bad rounds behind it, and the holds of the collective state fit their field: every step keeps
that (R25, R44, R47, R49, R51, R95). -/
def Obligations.CountsStayInRange : Prop :=
  ∀ s t : State, s.health.CountsSound ∧ s.coll.Sound → step s = .next t → t.health.CountsSound ∧ t.coll.Sound

/-- The transmit queue never holds more than 4 entries, queue and test set are empty in QUIET, LISTEN and ISOLATED, a
role test stays within its limits, and the executed mark stands only at a count of 3: every step keeps that with the
link's invariant (R128, R144, R161, R173 to R177, R181). The model's choices that it rests on: notes/assumptions/9. -/
def Obligations.DirectiveUnitStaysSound : Prop :=
  ∀ s t : State, LinkSound s ∧ UnitSound s → step s = .next t → LinkSound t ∧ UnitSound t

/-- D lies within 1..63 while the call is COOL or HEAT, within 4..32 while it is DRY, and is 0 while it is NONE, A stays
within 0..1008, and no zone without a call is served: every step keeps that (R85 to R89). -/
def Obligations.DemandStaysInRange : Prop :=
  ∀ s t : State, s.zone.Sound → step s = .next t → t.zone.Sound

/-- A zone's damper position counter and its target always lie within 0..400, the damper fault stands exactly in FAULT,
the homing mark is clear in HOMING and in the PAUSE before it, the bridge is asked for the drive of the machine's state,
and only the half asked for conducts: every step keeps that with the invariants of link and directive unit (R119, R120,
R125, R126, R127, R168). -/
def Obligations.DamperStaysSound : Prop :=
  ∀ s t : State, LinkSound s ∧ UnitSound s ∧ DamperSound s → step s = .next t →
    LinkSound t ∧ UnitSound t ∧ DamperSound t

/-- The compressor speed output is either 0 or within 30..100 %; it is 0 while the trip input is filtered active, while
LOCKOUT is set and outside the running states, the minimum off time lies behind a STOPPED machine, the channel is at its
stopped level while the machine stands still, and every duty stays a permille: every step keeps that with the invariants
of link and directive unit (R134, R136, R147 to R149, R153, R164 to R166). -/
def Obligations.PlantStaysSound : Prop :=
  ∀ s t : State,
    LinkSound s ∧ UnitSound s ∧ CompressorSound s ∧ ChannelSound s ∧ s.handler.Sound ∧ (∀ c, (s.out.pwm c).Sound) →
    step s = .next t →
    LinkSound t ∧ UnitSound t ∧ CompressorSound t ∧ ChannelSound t ∧ t.handler.Sound ∧ ∀ c, (t.out.pwm c).Sound

/-- Each channel's ring holds at most 8 values of 0..1500, its miss count stays within 0..3, and three misses leave the
ring empty: every step keeps that (R65 to R68). -/
def Obligations.RingsStaySound : Prop :=
  ∀ s t : State, s.meas.a.Sound ∧ s.meas.b.Sound → step s = .next t → t.meas.a.Sound ∧ t.meas.b.Sound

/-- LOCKOUT, once set, is cleared by nothing but CLEAR_TRIP, as a command or executed at its third reception in an
accepted round, the release of a reset of the SUPPLY kind, and the latching of straps that make the station a ZONE or
HANDLER one (R159, R160, R163, R185, and the opening of chapter 9). The model's choices that it rests on:
notes/assumptions/9, 14, and 13, by which a reset of the SUPPLY kind clears it at its release and not at its assertion. -/
def Obligations.OnlyTheseClearLockout : Prop :=
  ∀ (c : Instr) (s t : State), s.outdoor.lockout = true → exec c s = .next t → t.outdoor.lockout = false →
    (∃ src dst arg, c = .clearTrip src dst arg ∧ Heard src dst s ∧ s.role = .outdoor) ∨
      (∃ w d, c = .roundEnd w ∧ EndsAccepted w s ∧ ThirdReception d w s ∧ d.code = 0x3E ∧ s.role = .outdoor) ∨
      (s.rst.state = .asserted ∧ s.rst.kind = .supply ∧ t.rst.state = .settling) ∨
      (∃ a p, c = .settleTimer a p ∧ s.rst.state = .settling ∧ 2 ≤ a.toNat ∧ a.toNat ≤ 14)
end

