-- ==== Sys2Proof/Laws/State.lean ====
section
/-! SUPPORT. One lemma per field per update of State, each true by rfl, so that no later proof unfolds a record
update. -/

namespace Sys2Proof.Machine

/-! ### Time passes -/

@[simp] theorem elapse_pending (dt : Nat) (s : State) : (elapse dt s).pending = s.pending := rfl
@[simp] theorem elapse_rst (dt : Nat) (s : State) : (elapse dt s).rst = s.rst := rfl
@[simp] theorem elapse_asm (dt : Nat) (s : State) : (elapse dt s).asm = s.asm := rfl
@[simp] theorem elapse_health (dt : Nat) (s : State) : (elapse dt s).health = s.health := rfl
@[simp] theorem elapse_meas (dt : Nat) (s : State) : (elapse dt s).meas = s.meas := rfl
@[simp] theorem elapse_coll (dt : Nat) (s : State) : (elapse dt s).coll = s.coll := rfl
@[simp] theorem elapse_zone (dt : Nat) (s : State) : (elapse dt s).zone = s.zone := rfl
@[simp] theorem elapse_damper (dt : Nat) (s : State) : (elapse dt s).damper = s.damper := rfl
@[simp] theorem elapse_handler (dt : Nat) (s : State) : (elapse dt s).handler = s.handler := rfl
@[simp] theorem elapse_outdoor (dt : Nat) (s : State) : (elapse dt s).outdoor = s.outdoor := rfl
@[simp] theorem elapse_out (dt : Nat) (s : State) : (elapse dt s).out = s.out := rfl
@[simp] theorem elapse_dir (dt : Nat) (s : State) : (elapse dt s).dir = s.dir := rfl
@[simp] theorem elapse_timers (dt : Nat) (s : State) : (elapse dt s).timers = s.timers.elapse dt := rfl
@[simp] theorem elapse_rx (dt : Nat) (s : State) :
    (elapse dt s).line.rx = rxAfterGuard s.line.rx (s.timers.elapse dt).round.us := rfl
@[simp] theorem elapse_line_dominant (dt : Nat) (s : State) : (elapse dt s).line.dominant = s.line.dominant := rfl
@[simp] theorem elapse_line_pace (dt : Nat) (s : State) : (elapse dt s).line.pace = s.line.pace := rfl
@[simp] theorem elapse_line_silenceWaits (dt : Nat) (s : State) : (elapse dt s).line.silenceWaits = s.line.silenceWaits := rfl
@[simp] theorem elapse_line_framing (dt : Nat) (s : State) : (elapse dt s).line.framing = s.line.framing := rfl
@[simp] theorem elapse_line_permission (dt : Nat) (s : State) : (elapse dt s).line.permission = s.line.permission := rfl
@[simp] theorem elapse_line_outcomes (dt : Nat) (s : State) : (elapse dt s).line.outcomes = s.line.outcomes := rfl
@[simp] theorem elapse_line_driven (dt : Nat) (s : State) : (elapse dt s).line.driven = s.line.driven := rfl
@[simp] theorem elapse_role (dt : Nat) (s : State) : (elapse dt s).role = s.role := rfl
@[simp] theorem elapse_param (dt : Nat) (s : State) : (elapse dt s).param = s.param := rfl
@[simp] theorem elapse_paUs (dt : Nat) (s : State) : (elapse dt s).paUs = s.paUs := rfl
@[simp] theorem elapse_receives (dt : Nat) (s : State) : (elapse dt s).receives = s.receives := rfl
@[simp] theorem elapse_mayDrive (dt : Nat) (s : State) : (elapse dt s).mayDrive = s.mayDrive := rfl
@[simp] theorem elapse_started (dt : Nat) (s : State) : (elapse dt s).started = s.started := rfl
@[simp] theorem elapse_mode (dt : Nat) (s : State) : (elapse dt s).mode = s.mode := rfl
@[simp] theorem elapse_qz (dt : Nat) (s : State) : (elapse dt s).qz = s.qz := rfl
@[simp] theorem elapse_ownFcap (dt : Nat) (s : State) : (elapse dt s).ownFcap = s.ownFcap := rfl
@[simp] theorem elapse_ownFmin (dt : Nat) (s : State) : (elapse dt s).ownFmin = s.ownFmin := rfl
@[simp] theorem elapse_tempA (dt : Nat) (s : State) : (elapse dt s).tempA = s.tempA := rfl
@[simp] theorem elapse_tempB (dt : Nat) (s : State) : (elapse dt s).tempB = s.tempB := rfl
@[simp] theorem elapse_roomHumidity (dt : Nat) (s : State) : (elapse dt s).roomHumidity = s.roomHumidity := rfl

/-! ### The damper machine, the plant and a capture channel put back -/

@[simp] theorem withMotor_pending (s : State) (m : Motor) : (s.withMotor m).pending = s.pending := rfl
@[simp] theorem withMotor_rst (s : State) (m : Motor) : (s.withMotor m).rst = s.rst := rfl
@[simp] theorem withMotor_line (s : State) (m : Motor) : (s.withMotor m).line = s.line := rfl
@[simp] theorem withMotor_asm (s : State) (m : Motor) : (s.withMotor m).asm = s.asm := rfl
@[simp] theorem withMotor_health (s : State) (m : Motor) : (s.withMotor m).health = s.health := rfl
@[simp] theorem withMotor_meas (s : State) (m : Motor) : (s.withMotor m).meas = s.meas := rfl
@[simp] theorem withMotor_coll (s : State) (m : Motor) : (s.withMotor m).coll = s.coll := rfl
@[simp] theorem withMotor_zone (s : State) (m : Motor) : (s.withMotor m).zone = s.zone := rfl
@[simp] theorem withMotor_handler (s : State) (m : Motor) : (s.withMotor m).handler = s.handler := rfl
@[simp] theorem withMotor_outdoor (s : State) (m : Motor) : (s.withMotor m).outdoor = s.outdoor := rfl
@[simp] theorem withMotor_dir (s : State) (m : Motor) : (s.withMotor m).dir = s.dir := rfl
@[simp] theorem withMotor_damper (s : State) (m : Motor) : (s.withMotor m).damper = m.d := rfl
@[simp] theorem withMotor_timers (s : State) (m : Motor) : (s.withMotor m).timers = m.t := rfl
@[simp] theorem withMotor_bridge (s : State) (m : Motor) : (s.withMotor m).out.bridge = m.b := rfl
@[simp] theorem withMotor_motor (s : State) (m : Motor) : (s.withMotor m).motor = m := rfl
@[simp] theorem withMotor_out_blower (s : State) (m : Motor) : (s.withMotor m).out.blower = s.out.blower := rfl
@[simp] theorem withMotor_out_bypass (s : State) (m : Motor) : (s.withMotor m).out.bypass = s.out.bypass := rfl
@[simp] theorem withMotor_out_compressor (s : State) (m : Motor) : (s.withMotor m).out.compressor = s.out.compressor := rfl
@[simp] theorem withMotor_out_tripHold (s : State) (m : Motor) : (s.withMotor m).out.tripHold = s.out.tripHold := rfl
@[simp] theorem withMotor_out_valve (s : State) (m : Motor) : (s.withMotor m).out.valve = s.out.valve := rfl
@[simp] theorem withMotor_out_fan (s : State) (m : Motor) : (s.withMotor m).out.fan = s.out.fan := rfl
@[simp] theorem withMotor_out_heater (s : State) (m : Motor) : (s.withMotor m).out.heater = s.out.heater := rfl
@[simp] theorem withMotor_out_tripActive (s : State) (m : Motor) : (s.withMotor m).out.tripActive = s.out.tripActive := rfl
@[simp] theorem withMotor_out_tripRun (s : State) (m : Motor) : (s.withMotor m).out.tripRun = s.out.tripRun := rfl
@[simp] theorem withMotor_out_blinkLit (s : State) (m : Motor) : (s.withMotor m).out.blinkLit = s.out.blinkLit := rfl
@[simp] theorem withPlant_pending (s : State) (p : Plant) : (s.withPlant p).pending = s.pending := rfl
@[simp] theorem withPlant_rst (s : State) (p : Plant) : (s.withPlant p).rst = s.rst := rfl
@[simp] theorem withPlant_line (s : State) (p : Plant) : (s.withPlant p).line = s.line := rfl
@[simp] theorem withPlant_asm (s : State) (p : Plant) : (s.withPlant p).asm = s.asm := rfl
@[simp] theorem withPlant_health (s : State) (p : Plant) : (s.withPlant p).health = s.health := rfl
@[simp] theorem withPlant_meas (s : State) (p : Plant) : (s.withPlant p).meas = s.meas := rfl
@[simp] theorem withPlant_coll (s : State) (p : Plant) : (s.withPlant p).coll = s.coll := rfl
@[simp] theorem withPlant_zone (s : State) (p : Plant) : (s.withPlant p).zone = s.zone := rfl
@[simp] theorem withPlant_damper (s : State) (p : Plant) : (s.withPlant p).damper = s.damper := rfl
@[simp] theorem withPlant_handler (s : State) (p : Plant) : (s.withPlant p).handler = s.handler := rfl
@[simp] theorem withPlant_dir (s : State) (p : Plant) : (s.withPlant p).dir = s.dir := rfl
@[simp] theorem withPlant_outdoor (s : State) (p : Plant) : (s.withPlant p).outdoor = p.o := rfl
@[simp] theorem withPlant_timers (s : State) (p : Plant) : (s.withPlant p).timers = p.t := rfl
@[simp] theorem withPlant_out (s : State) (p : Plant) : (s.withPlant p).out = p.out := rfl
@[simp] theorem withPlant_plant (s : State) (p : Plant) : (s.withPlant p).plant = p := rfl
@[simp] theorem withCapture_pending (s : State) (ch : Channel) (x : Capture) :
    (s.withCapture ch x).pending = s.pending := by cases ch <;> rfl
@[simp] theorem withCapture_rst (s : State) (ch : Channel) (x : Capture) :
    (s.withCapture ch x).rst = s.rst := by cases ch <;> rfl
@[simp] theorem withCapture_line (s : State) (ch : Channel) (x : Capture) :
    (s.withCapture ch x).line = s.line := by cases ch <;> rfl
@[simp] theorem withCapture_asm (s : State) (ch : Channel) (x : Capture) :
    (s.withCapture ch x).asm = s.asm := by cases ch <;> rfl
@[simp] theorem withCapture_health (s : State) (ch : Channel) (x : Capture) :
    (s.withCapture ch x).health = s.health := by cases ch <;> rfl
@[simp] theorem withCapture_coll (s : State) (ch : Channel) (x : Capture) :
    (s.withCapture ch x).coll = s.coll := by cases ch <;> rfl
@[simp] theorem withCapture_zone (s : State) (ch : Channel) (x : Capture) :
    (s.withCapture ch x).zone = s.zone := by cases ch <;> rfl
@[simp] theorem withCapture_damper (s : State) (ch : Channel) (x : Capture) :
    (s.withCapture ch x).damper = s.damper := by cases ch <;> rfl
@[simp] theorem withCapture_handler (s : State) (ch : Channel) (x : Capture) :
    (s.withCapture ch x).handler = s.handler := by cases ch <;> rfl
@[simp] theorem withCapture_outdoor (s : State) (ch : Channel) (x : Capture) :
    (s.withCapture ch x).outdoor = s.outdoor := by cases ch <;> rfl
@[simp] theorem withCapture_out (s : State) (ch : Channel) (x : Capture) :
    (s.withCapture ch x).out = s.out := by cases ch <;> rfl
@[simp] theorem withCapture_dir (s : State) (ch : Channel) (x : Capture) :
    (s.withCapture ch x).dir = s.dir := by cases ch <;> rfl
@[simp] theorem withCapture_capture (s : State) (ch : Channel) (x : Capture) :
    (s.withCapture ch x).capture ch = x := by cases ch <;> rfl

/-! ### Entry to LISTEN and reset -/

@[simp] theorem enterListen_pending (s : State) : (enterListen s).pending = s.pending := rfl
@[simp] theorem enterListen_rst (s : State) : (enterListen s).rst = s.rst := rfl
@[simp] theorem enterListen_meas (s : State) : (enterListen s).meas = s.meas := rfl
@[simp] theorem enterListen_coll (s : State) : (enterListen s).coll = s.coll := rfl
@[simp] theorem enterListen_damper (s : State) : (enterListen s).damper = s.damper := rfl
@[simp] theorem enterListen_handler (s : State) : (enterListen s).handler = s.handler := rfl
@[simp] theorem enterListen_outdoor (s : State) : (enterListen s).outdoor = s.outdoor := rfl
@[simp] theorem enterListen_out (s : State) : (enterListen s).out = s.out := rfl
@[simp] theorem enterListen_link (s : State) : (enterListen s).health.link = .listen := rfl
@[simp] theorem enterListen_settings (s : State) : (enterListen s).zone.settings = s.zone.settings := rfl
@[simp] theorem enterListen_permission (s : State) : (enterListen s).line.permission = false := rfl
@[simp] theorem enterListen_image (s : State) : (enterListen s).asm.image = none := rfl
@[simp] theorem assertReset_pending (k : ResetKind) (s : State) : (assertReset k s).pending = s.pending := rfl
@[simp] theorem assertReset_settings (k : ResetKind) (s : State) : (assertReset k s).zone.settings = s.zone.settings := rfl
@[simp] theorem assertReset_health (k : ResetKind) (s : State) : (assertReset k s).health = .atReset := rfl
@[simp] theorem assertReset_state (k : ResetKind) (s : State) : (assertReset k s).rst.state = .asserted := rfl
@[simp] theorem assertReset_dir (k : ResetKind) (s : State) : (assertReset k s).dir = .atReset := rfl
@[simp] theorem assertReset_coll (k : ResetKind) (s : State) : (assertReset k s).coll = .atReset := rfl
@[simp] theorem assertReset_damper (k : ResetKind) (s : State) : (assertReset k s).damper = .atReset := rfl
@[simp] theorem assertReset_handler (k : ResetKind) (s : State) : (assertReset k s).handler = .atReset := rfl
@[simp] theorem assertReset_out (k : ResetKind) (s : State) : (assertReset k s).out = .atReset := rfl
@[simp] theorem assertReset_meas (k : ResetKind) (s : State) : (assertReset k s).meas = .atReset := rfl

end Sys2Proof.Machine
end

