-- ==== Sys2Proof/Laws/Frame.lean ====
section
/-! SUPPORT. What each shared operation on a station leaves unchanged, field by field, so that a frame is read off
without unfolding the operation. -/

namespace Sys2Proof.Machine

/-! zoneRound z s -/

@[simp] theorem zoneRound_pending (z : Settings) (s : State) : (zoneRound z s).pending = s.pending := rfl
@[simp] theorem zoneRound_rst (z : Settings) (s : State) : (zoneRound z s).rst = s.rst := rfl
@[simp] theorem zoneRound_line (z : Settings) (s : State) : (zoneRound z s).line = s.line := rfl
@[simp] theorem zoneRound_asm (z : Settings) (s : State) : (zoneRound z s).asm = s.asm := rfl
@[simp] theorem zoneRound_health (z : Settings) (s : State) : (zoneRound z s).health = s.health := rfl
@[simp] theorem zoneRound_meas (z : Settings) (s : State) : (zoneRound z s).meas = s.meas := rfl
@[simp] theorem zoneRound_coll (z : Settings) (s : State) : (zoneRound z s).coll = s.coll := rfl
@[simp] theorem zoneRound_handler (z : Settings) (s : State) : (zoneRound z s).handler = s.handler := rfl
@[simp] theorem zoneRound_outdoor (z : Settings) (s : State) : (zoneRound z s).outdoor = s.outdoor := rfl
@[simp] theorem zoneRound_out (z : Settings) (s : State) : (zoneRound z s).out = s.out := rfl
@[simp] theorem zoneRound_dir (z : Settings) (s : State) : (zoneRound z s).dir = s.dir := rfl
@[simp] theorem zoneRound_timers (z : Settings) (s : State) : (zoneRound z s).timers = s.timers := rfl

/-! zoneSafe s -/

@[simp] theorem zoneSafe_pending (s : State) : (zoneSafe s).pending = s.pending := rfl
@[simp] theorem zoneSafe_rst (s : State) : (zoneSafe s).rst = s.rst := rfl
@[simp] theorem zoneSafe_line (s : State) : (zoneSafe s).line = s.line := rfl
@[simp] theorem zoneSafe_asm (s : State) : (zoneSafe s).asm = s.asm := rfl
@[simp] theorem zoneSafe_health (s : State) : (zoneSafe s).health = s.health := rfl
@[simp] theorem zoneSafe_meas (s : State) : (zoneSafe s).meas = s.meas := rfl
@[simp] theorem zoneSafe_coll (s : State) : (zoneSafe s).coll = s.coll := rfl
@[simp] theorem zoneSafe_zone (s : State) : (zoneSafe s).zone = s.zone := rfl
@[simp] theorem zoneSafe_handler (s : State) : (zoneSafe s).handler = s.handler := rfl
@[simp] theorem zoneSafe_outdoor (s : State) : (zoneSafe s).outdoor = s.outdoor := rfl
@[simp] theorem zoneSafe_dir (s : State) : (zoneSafe s).dir = s.dir := rfl

/-! zoneRoundStart s -/

@[simp] theorem zoneRoundStart_pending (s : State) : (zoneRoundStart s).pending = s.pending := rfl
@[simp] theorem zoneRoundStart_rst (s : State) : (zoneRoundStart s).rst = s.rst := rfl
@[simp] theorem zoneRoundStart_line (s : State) : (zoneRoundStart s).line = s.line := rfl
@[simp] theorem zoneRoundStart_asm (s : State) : (zoneRoundStart s).asm = s.asm := rfl
@[simp] theorem zoneRoundStart_health (s : State) : (zoneRoundStart s).health = s.health := rfl
@[simp] theorem zoneRoundStart_meas (s : State) : (zoneRoundStart s).meas = s.meas := rfl
@[simp] theorem zoneRoundStart_coll (s : State) : (zoneRoundStart s).coll = s.coll := rfl
@[simp] theorem zoneRoundStart_zone (s : State) : (zoneRoundStart s).zone = s.zone := rfl
@[simp] theorem zoneRoundStart_handler (s : State) : (zoneRoundStart s).handler = s.handler := rfl
@[simp] theorem zoneRoundStart_outdoor (s : State) : (zoneRoundStart s).outdoor = s.outdoor := rfl
@[simp] theorem zoneRoundStart_dir (s : State) : (zoneRoundStart s).dir = s.dir := rfl

/-! handlerRound s -/

@[simp] theorem handlerRound_pending (s : State) : (handlerRound s).pending = s.pending := rfl
@[simp] theorem handlerRound_rst (s : State) : (handlerRound s).rst = s.rst := rfl
@[simp] theorem handlerRound_line (s : State) : (handlerRound s).line = s.line := rfl
@[simp] theorem handlerRound_asm (s : State) : (handlerRound s).asm = s.asm := rfl
@[simp] theorem handlerRound_health (s : State) : (handlerRound s).health = s.health := rfl
@[simp] theorem handlerRound_meas (s : State) : (handlerRound s).meas = s.meas := rfl
@[simp] theorem handlerRound_coll (s : State) : (handlerRound s).coll = s.coll := rfl
@[simp] theorem handlerRound_zone (s : State) : (handlerRound s).zone = s.zone := rfl
@[simp] theorem handlerRound_damper (s : State) : (handlerRound s).damper = s.damper := rfl
@[simp] theorem handlerRound_outdoor (s : State) : (handlerRound s).outdoor = s.outdoor := rfl
@[simp] theorem handlerRound_out (s : State) : (handlerRound s).out = s.out := rfl
@[simp] theorem handlerRound_dir (s : State) : (handlerRound s).dir = s.dir := rfl
@[simp] theorem handlerRound_timers (s : State) : (handlerRound s).timers = s.timers := rfl

/-! handlerRoundStart s -/

@[simp] theorem handlerRoundStart_pending (s : State) : (handlerRoundStart s).pending = s.pending := rfl
@[simp] theorem handlerRoundStart_rst (s : State) : (handlerRoundStart s).rst = s.rst := rfl
@[simp] theorem handlerRoundStart_line (s : State) : (handlerRoundStart s).line = s.line := rfl
@[simp] theorem handlerRoundStart_asm (s : State) : (handlerRoundStart s).asm = s.asm := rfl
@[simp] theorem handlerRoundStart_health (s : State) : (handlerRoundStart s).health = s.health := rfl
@[simp] theorem handlerRoundStart_meas (s : State) : (handlerRoundStart s).meas = s.meas := rfl
@[simp] theorem handlerRoundStart_coll (s : State) : (handlerRoundStart s).coll = s.coll := rfl
@[simp] theorem handlerRoundStart_zone (s : State) : (handlerRoundStart s).zone = s.zone := rfl
@[simp] theorem handlerRoundStart_damper (s : State) : (handlerRoundStart s).damper = s.damper := rfl
@[simp] theorem handlerRoundStart_outdoor (s : State) : (handlerRoundStart s).outdoor = s.outdoor := rfl
@[simp] theorem handlerRoundStart_dir (s : State) : (handlerRoundStart s).dir = s.dir := rfl
@[simp] theorem handlerRoundStart_timers (s : State) : (handlerRoundStart s).timers = s.timers := rfl

/-! requestAux s -/

@[simp] theorem requestAux_pending (s : State) : (requestAux s).pending = s.pending := rfl
@[simp] theorem requestAux_rst (s : State) : (requestAux s).rst = s.rst := rfl
@[simp] theorem requestAux_line (s : State) : (requestAux s).line = s.line := rfl
@[simp] theorem requestAux_asm (s : State) : (requestAux s).asm = s.asm := rfl
@[simp] theorem requestAux_health (s : State) : (requestAux s).health = s.health := rfl
@[simp] theorem requestAux_meas (s : State) : (requestAux s).meas = s.meas := rfl
@[simp] theorem requestAux_coll (s : State) : (requestAux s).coll = s.coll := rfl
@[simp] theorem requestAux_zone (s : State) : (requestAux s).zone = s.zone := rfl
@[simp] theorem requestAux_damper (s : State) : (requestAux s).damper = s.damper := rfl
@[simp] theorem requestAux_handler (s : State) : (requestAux s).handler = s.handler := rfl
@[simp] theorem requestAux_outdoor (s : State) : (requestAux s).outdoor = s.outdoor := rfl
@[simp] theorem requestAux_dir (s : State) : (requestAux s).dir = s.dir := rfl

/-! handlerTick s -/

@[simp] theorem handlerTick_pending (s : State) : (handlerTick s).pending = s.pending := rfl
@[simp] theorem handlerTick_rst (s : State) : (handlerTick s).rst = s.rst := rfl
@[simp] theorem handlerTick_line (s : State) : (handlerTick s).line = s.line := rfl
@[simp] theorem handlerTick_asm (s : State) : (handlerTick s).asm = s.asm := rfl
@[simp] theorem handlerTick_health (s : State) : (handlerTick s).health = s.health := rfl
@[simp] theorem handlerTick_meas (s : State) : (handlerTick s).meas = s.meas := rfl
@[simp] theorem handlerTick_coll (s : State) : (handlerTick s).coll = s.coll := rfl
@[simp] theorem handlerTick_zone (s : State) : (handlerTick s).zone = s.zone := rfl
@[simp] theorem handlerTick_damper (s : State) : (handlerTick s).damper = s.damper := rfl
@[simp] theorem handlerTick_outdoor (s : State) : (handlerTick s).outdoor = s.outdoor := rfl
@[simp] theorem handlerTick_dir (s : State) : (handlerTick s).dir = s.dir := rfl

/-! handlerSafe s -/

@[simp] theorem handlerSafe_pending (s : State) : (handlerSafe s).pending = s.pending := rfl
@[simp] theorem handlerSafe_rst (s : State) : (handlerSafe s).rst = s.rst := rfl
@[simp] theorem handlerSafe_line (s : State) : (handlerSafe s).line = s.line := rfl
@[simp] theorem handlerSafe_asm (s : State) : (handlerSafe s).asm = s.asm := rfl
@[simp] theorem handlerSafe_health (s : State) : (handlerSafe s).health = s.health := rfl
@[simp] theorem handlerSafe_meas (s : State) : (handlerSafe s).meas = s.meas := rfl
@[simp] theorem handlerSafe_coll (s : State) : (handlerSafe s).coll = s.coll := rfl
@[simp] theorem handlerSafe_zone (s : State) : (handlerSafe s).zone = s.zone := rfl
@[simp] theorem handlerSafe_damper (s : State) : (handlerSafe s).damper = s.damper := rfl
@[simp] theorem handlerSafe_outdoor (s : State) : (handlerSafe s).outdoor = s.outdoor := rfl
@[simp] theorem handlerSafe_dir (s : State) : (handlerSafe s).dir = s.dir := rfl

/-! outdoorRound s -/

@[simp] theorem outdoorRound_pending (s : State) : (outdoorRound s).pending = s.pending := rfl
@[simp] theorem outdoorRound_rst (s : State) : (outdoorRound s).rst = s.rst := rfl
@[simp] theorem outdoorRound_line (s : State) : (outdoorRound s).line = s.line := rfl
@[simp] theorem outdoorRound_asm (s : State) : (outdoorRound s).asm = s.asm := rfl
@[simp] theorem outdoorRound_health (s : State) : (outdoorRound s).health = s.health := rfl
@[simp] theorem outdoorRound_meas (s : State) : (outdoorRound s).meas = s.meas := rfl
@[simp] theorem outdoorRound_coll (s : State) : (outdoorRound s).coll = s.coll := rfl
@[simp] theorem outdoorRound_zone (s : State) : (outdoorRound s).zone = s.zone := rfl
@[simp] theorem outdoorRound_damper (s : State) : (outdoorRound s).damper = s.damper := rfl
@[simp] theorem outdoorRound_handler (s : State) : (outdoorRound s).handler = s.handler := rfl
@[simp] theorem outdoorRound_dir (s : State) : (outdoorRound s).dir = s.dir := rfl

/-! outdoorRoundStart s -/

@[simp] theorem outdoorRoundStart_pending (s : State) : (outdoorRoundStart s).pending = s.pending := rfl
@[simp] theorem outdoorRoundStart_rst (s : State) : (outdoorRoundStart s).rst = s.rst := rfl
@[simp] theorem outdoorRoundStart_line (s : State) : (outdoorRoundStart s).line = s.line := rfl
@[simp] theorem outdoorRoundStart_asm (s : State) : (outdoorRoundStart s).asm = s.asm := rfl
@[simp] theorem outdoorRoundStart_health (s : State) : (outdoorRoundStart s).health = s.health := rfl
@[simp] theorem outdoorRoundStart_meas (s : State) : (outdoorRoundStart s).meas = s.meas := rfl
@[simp] theorem outdoorRoundStart_coll (s : State) : (outdoorRoundStart s).coll = s.coll := rfl
@[simp] theorem outdoorRoundStart_zone (s : State) : (outdoorRoundStart s).zone = s.zone := rfl
@[simp] theorem outdoorRoundStart_damper (s : State) : (outdoorRoundStart s).damper = s.damper := rfl
@[simp] theorem outdoorRoundStart_handler (s : State) : (outdoorRoundStart s).handler = s.handler := rfl
@[simp] theorem outdoorRoundStart_out (s : State) : (outdoorRoundStart s).out = s.out := rfl
@[simp] theorem outdoorRoundStart_dir (s : State) : (outdoorRoundStart s).dir = s.dir := rfl
@[simp] theorem outdoorRoundStart_timers (s : State) : (outdoorRoundStart s).timers = s.timers := rfl

/-! outdoorTick s -/

@[simp] theorem outdoorTick_pending (s : State) : (outdoorTick s).pending = s.pending := rfl
@[simp] theorem outdoorTick_rst (s : State) : (outdoorTick s).rst = s.rst := rfl
@[simp] theorem outdoorTick_line (s : State) : (outdoorTick s).line = s.line := rfl
@[simp] theorem outdoorTick_asm (s : State) : (outdoorTick s).asm = s.asm := rfl
@[simp] theorem outdoorTick_health (s : State) : (outdoorTick s).health = s.health := rfl
@[simp] theorem outdoorTick_meas (s : State) : (outdoorTick s).meas = s.meas := rfl
@[simp] theorem outdoorTick_coll (s : State) : (outdoorTick s).coll = s.coll := rfl
@[simp] theorem outdoorTick_zone (s : State) : (outdoorTick s).zone = s.zone := rfl
@[simp] theorem outdoorTick_damper (s : State) : (outdoorTick s).damper = s.damper := rfl
@[simp] theorem outdoorTick_handler (s : State) : (outdoorTick s).handler = s.handler := rfl
@[simp] theorem outdoorTick_dir (s : State) : (outdoorTick s).dir = s.dir := rfl

/-! outdoorSafe s -/

@[simp] theorem outdoorSafe_pending (s : State) : (outdoorSafe s).pending = s.pending := rfl
@[simp] theorem outdoorSafe_rst (s : State) : (outdoorSafe s).rst = s.rst := rfl
@[simp] theorem outdoorSafe_line (s : State) : (outdoorSafe s).line = s.line := rfl
@[simp] theorem outdoorSafe_asm (s : State) : (outdoorSafe s).asm = s.asm := rfl
@[simp] theorem outdoorSafe_health (s : State) : (outdoorSafe s).health = s.health := rfl
@[simp] theorem outdoorSafe_meas (s : State) : (outdoorSafe s).meas = s.meas := rfl
@[simp] theorem outdoorSafe_coll (s : State) : (outdoorSafe s).coll = s.coll := rfl
@[simp] theorem outdoorSafe_zone (s : State) : (outdoorSafe s).zone = s.zone := rfl
@[simp] theorem outdoorSafe_damper (s : State) : (outdoorSafe s).damper = s.damper := rfl
@[simp] theorem outdoorSafe_handler (s : State) : (outdoorSafe s).handler = s.handler := rfl
@[simp] theorem outdoorSafe_dir (s : State) : (outdoorSafe s).dir = s.dir := rfl

/-! zoneTick s -/

@[simp] theorem zoneTick_pending (s : State) : (zoneTick s).pending = s.pending := rfl
@[simp] theorem zoneTick_rst (s : State) : (zoneTick s).rst = s.rst := rfl
@[simp] theorem zoneTick_line (s : State) : (zoneTick s).line = s.line := rfl
@[simp] theorem zoneTick_asm (s : State) : (zoneTick s).asm = s.asm := rfl
@[simp] theorem zoneTick_health (s : State) : (zoneTick s).health = s.health := rfl
@[simp] theorem zoneTick_meas (s : State) : (zoneTick s).meas = s.meas := rfl
@[simp] theorem zoneTick_coll (s : State) : (zoneTick s).coll = s.coll := rfl
@[simp] theorem zoneTick_damper (s : State) : (zoneTick s).damper = s.damper := rfl
@[simp] theorem zoneTick_handler (s : State) : (zoneTick s).handler = s.handler := rfl
@[simp] theorem zoneTick_outdoor (s : State) : (zoneTick s).outdoor = s.outdoor := rfl
@[simp] theorem zoneTick_out (s : State) : (zoneTick s).out = s.out := rfl
@[simp] theorem zoneTick_dir (s : State) : (zoneTick s).dir = s.dir := rfl
@[simp] theorem zoneTick_timers (s : State) : (zoneTick s).timers = s.timers := rfl

/-! consumeChannels s -/

@[simp] theorem consumeChannels_pending (s : State) : (consumeChannels s).pending = s.pending := rfl
@[simp] theorem consumeChannels_rst (s : State) : (consumeChannels s).rst = s.rst := rfl
@[simp] theorem consumeChannels_line (s : State) : (consumeChannels s).line = s.line := rfl
@[simp] theorem consumeChannels_asm (s : State) : (consumeChannels s).asm = s.asm := rfl
@[simp] theorem consumeChannels_health (s : State) : (consumeChannels s).health = s.health := rfl
@[simp] theorem consumeChannels_coll (s : State) : (consumeChannels s).coll = s.coll := rfl
@[simp] theorem consumeChannels_zone (s : State) : (consumeChannels s).zone = s.zone := rfl
@[simp] theorem consumeChannels_damper (s : State) : (consumeChannels s).damper = s.damper := rfl
@[simp] theorem consumeChannels_handler (s : State) : (consumeChannels s).handler = s.handler := rfl
@[simp] theorem consumeChannels_outdoor (s : State) : (consumeChannels s).outdoor = s.outdoor := rfl
@[simp] theorem consumeChannels_out (s : State) : (consumeChannels s).out = s.out := rfl
@[simp] theorem consumeChannels_dir (s : State) : (consumeChannels s).dir = s.dir := rfl
@[simp] theorem consumeChannels_timers (s : State) : (consumeChannels s).timers = s.timers := rfl

/-! toSecond s -/

@[simp] theorem toSecond_pending (s : State) : (toSecond s).pending = s.pending := rfl
@[simp] theorem toSecond_rst (s : State) : (toSecond s).rst = s.rst := rfl
@[simp] theorem toSecond_asm (s : State) : (toSecond s).asm = s.asm := rfl
@[simp] theorem toSecond_health (s : State) : (toSecond s).health = s.health := rfl
@[simp] theorem toSecond_meas (s : State) : (toSecond s).meas = s.meas := rfl
@[simp] theorem toSecond_coll (s : State) : (toSecond s).coll = s.coll := rfl
@[simp] theorem toSecond_zone (s : State) : (toSecond s).zone = s.zone := rfl
@[simp] theorem toSecond_damper (s : State) : (toSecond s).damper = s.damper := rfl
@[simp] theorem toSecond_handler (s : State) : (toSecond s).handler = s.handler := rfl
@[simp] theorem toSecond_outdoor (s : State) : (toSecond s).outdoor = s.outdoor := rfl
@[simp] theorem toSecond_out (s : State) : (toSecond s).out = s.out := rfl
@[simp] theorem toSecond_dir (s : State) : (toSecond s).dir = s.dir := rfl

/-! roleTick s -/

@[simp] theorem roleTick_pending (s : State) : (roleTick s).pending = s.pending := by
  unfold roleTick
  split <;> simp
@[simp] theorem roleTick_rst (s : State) : (roleTick s).rst = s.rst := by
  unfold roleTick
  split <;> simp
@[simp] theorem roleTick_line (s : State) : (roleTick s).line = s.line := by
  unfold roleTick
  split <;> simp
@[simp] theorem roleTick_asm (s : State) : (roleTick s).asm = s.asm := by
  unfold roleTick
  split <;> simp
@[simp] theorem roleTick_health (s : State) : (roleTick s).health = s.health := by
  unfold roleTick
  split <;> simp
@[simp] theorem roleTick_meas (s : State) : (roleTick s).meas = s.meas := by
  unfold roleTick
  split <;> simp
@[simp] theorem roleTick_coll (s : State) : (roleTick s).coll = s.coll := by
  unfold roleTick
  split <;> simp
@[simp] theorem roleTick_damper (s : State) : (roleTick s).damper = s.damper := by
  unfold roleTick
  split <;> simp
@[simp] theorem roleTick_dir (s : State) : (roleTick s).dir = s.dir := by
  unfold roleTick
  split <;> simp

/-! secondTick s -/

@[simp] theorem secondTick_pending (s : State) : (secondTick s).pending = s.pending := by
  unfold secondTick consumed
  split
  · split <;> simp
  · rfl
@[simp] theorem secondTick_rst (s : State) : (secondTick s).rst = s.rst := by
  unfold secondTick consumed
  split
  · split <;> simp
  · rfl
@[simp] theorem secondTick_asm (s : State) : (secondTick s).asm = s.asm := by
  unfold secondTick consumed
  split
  · split <;> simp
  · rfl
@[simp] theorem secondTick_health (s : State) : (secondTick s).health = s.health := by
  unfold secondTick consumed
  split
  · split <;> simp
  · rfl
@[simp] theorem secondTick_coll (s : State) : (secondTick s).coll = s.coll := by
  unfold secondTick consumed
  split
  · split <;> simp
  · rfl
@[simp] theorem secondTick_damper (s : State) : (secondTick s).damper = s.damper := by
  unfold secondTick consumed
  split
  · split <;> simp
  · rfl
@[simp] theorem secondTick_dir (s : State) : (secondTick s).dir = s.dir := by
  unfold secondTick consumed
  split
  · split <;> simp
  · rfl

/-! roleRound z s -/

@[simp] theorem roleRound_pending (z : Settings) (s : State) : (roleRound z s).pending = s.pending := by
  unfold roleRound
  split <;> simp
@[simp] theorem roleRound_rst (z : Settings) (s : State) : (roleRound z s).rst = s.rst := by
  unfold roleRound
  split <;> simp
@[simp] theorem roleRound_line (z : Settings) (s : State) : (roleRound z s).line = s.line := by
  unfold roleRound
  split <;> simp
@[simp] theorem roleRound_asm (z : Settings) (s : State) : (roleRound z s).asm = s.asm := by
  unfold roleRound
  split <;> simp
@[simp] theorem roleRound_health (z : Settings) (s : State) : (roleRound z s).health = s.health := by
  unfold roleRound
  split <;> simp
@[simp] theorem roleRound_meas (z : Settings) (s : State) : (roleRound z s).meas = s.meas := by
  unfold roleRound
  split <;> simp
@[simp] theorem roleRound_coll (z : Settings) (s : State) : (roleRound z s).coll = s.coll := by
  unfold roleRound
  split <;> simp
@[simp] theorem roleRound_dir (z : Settings) (s : State) : (roleRound z s).dir = s.dir := by
  unfold roleRound
  split <;> simp

/-! roleSafe s -/

@[simp] theorem roleSafe_pending (s : State) : (roleSafe s).pending = s.pending := by
  unfold roleSafe
  split <;> simp
@[simp] theorem roleSafe_rst (s : State) : (roleSafe s).rst = s.rst := by
  unfold roleSafe
  split <;> simp
@[simp] theorem roleSafe_line (s : State) : (roleSafe s).line = s.line := by
  unfold roleSafe
  split <;> simp
@[simp] theorem roleSafe_asm (s : State) : (roleSafe s).asm = s.asm := by
  unfold roleSafe
  split <;> simp
@[simp] theorem roleSafe_health (s : State) : (roleSafe s).health = s.health := by
  unfold roleSafe
  split <;> simp
@[simp] theorem roleSafe_meas (s : State) : (roleSafe s).meas = s.meas := by
  unfold roleSafe
  split <;> simp
@[simp] theorem roleSafe_coll (s : State) : (roleSafe s).coll = s.coll := by
  unfold roleSafe
  split <;> simp
@[simp] theorem roleSafe_zone (s : State) : (roleSafe s).zone = s.zone := by
  unfold roleSafe
  split <;> simp
@[simp] theorem roleSafe_dir (s : State) : (roleSafe s).dir = s.dir := by
  unfold roleSafe
  split <;> simp

/-! roleRoundStart s -/

@[simp] theorem roleRoundStart_pending (s : State) : (roleRoundStart s).pending = s.pending := by
  unfold roleRoundStart
  split <;> simp
@[simp] theorem roleRoundStart_rst (s : State) : (roleRoundStart s).rst = s.rst := by
  unfold roleRoundStart
  split <;> simp
@[simp] theorem roleRoundStart_line (s : State) : (roleRoundStart s).line = s.line := by
  unfold roleRoundStart
  split <;> simp
@[simp] theorem roleRoundStart_asm (s : State) : (roleRoundStart s).asm = s.asm := by
  unfold roleRoundStart
  split <;> simp
@[simp] theorem roleRoundStart_health (s : State) : (roleRoundStart s).health = s.health := by
  unfold roleRoundStart
  split <;> simp
@[simp] theorem roleRoundStart_meas (s : State) : (roleRoundStart s).meas = s.meas := by
  unfold roleRoundStart
  split <;> simp
@[simp] theorem roleRoundStart_coll (s : State) : (roleRoundStart s).coll = s.coll := by
  unfold roleRoundStart
  split <;> simp
@[simp] theorem roleRoundStart_zone (s : State) : (roleRoundStart s).zone = s.zone := by
  unfold roleRoundStart
  split <;> simp
@[simp] theorem roleRoundStart_dir (s : State) : (roleRoundStart s).dir = s.dir := by
  unfold roleRoundStart
  split <;> simp

/-! rehome s -/

@[simp] theorem rehome_pending (s : State) : (rehome s).pending = s.pending := by
  unfold rehome
  split <;> simp
@[simp] theorem rehome_rst (s : State) : (rehome s).rst = s.rst := by
  unfold rehome
  split <;> simp
@[simp] theorem rehome_line (s : State) : (rehome s).line = s.line := by
  unfold rehome
  split <;> simp
@[simp] theorem rehome_asm (s : State) : (rehome s).asm = s.asm := by
  unfold rehome
  split <;> simp
@[simp] theorem rehome_health (s : State) : (rehome s).health = s.health := by
  unfold rehome
  split <;> simp
@[simp] theorem rehome_meas (s : State) : (rehome s).meas = s.meas := by
  unfold rehome
  split <;> simp
@[simp] theorem rehome_coll (s : State) : (rehome s).coll = s.coll := by
  unfold rehome
  split <;> simp
@[simp] theorem rehome_zone (s : State) : (rehome s).zone = s.zone := by
  unfold rehome
  split <;> simp
@[simp] theorem rehome_handler (s : State) : (rehome s).handler = s.handler := by
  unfold rehome
  split <;> simp
@[simp] theorem rehome_outdoor (s : State) : (rehome s).outdoor = s.outdoor := by
  unfold rehome
  split <;> simp
@[simp] theorem rehome_dir (s : State) : (rehome s).dir = s.dir := by
  unfold rehome
  split <;> simp

/-! (c.effect arg s).1 -/

@[simp] theorem codeEffect_pending (c : Code) (arg : Byte) (s : State) : (c.effect arg s).1.pending = s.pending := by
  cases c <;> simp only [Code.effect, effectSetCool, effectSetHeat, effectSetHumid, effectRead, effectTestDamper, latchRole,
    effectTestBlower, effectTestSpeed, effectCorruptCheck, effectMuteCount, effectClearTrip, effectNormal, rehome_pending]
  · unfold effectZoneSet; split <;> rfl
  · unfold effectForceDefrost; split <;> rfl
@[simp] theorem codeEffect_rst (c : Code) (arg : Byte) (s : State) : (c.effect arg s).1.rst = s.rst := by
  cases c <;> simp only [Code.effect, effectSetCool, effectSetHeat, effectSetHumid, effectRead, effectTestDamper, latchRole,
    effectTestBlower, effectTestSpeed, effectCorruptCheck, effectMuteCount, effectClearTrip, effectNormal, rehome_rst]
  · unfold effectZoneSet; split <;> rfl
  · unfold effectForceDefrost; split <;> rfl
@[simp] theorem codeEffect_line (c : Code) (arg : Byte) (s : State) : (c.effect arg s).1.line = s.line := by
  cases c <;> simp only [Code.effect, effectSetCool, effectSetHeat, effectSetHumid, effectRead, effectTestDamper, latchRole,
    effectTestBlower, effectTestSpeed, effectCorruptCheck, effectMuteCount, effectClearTrip, effectNormal, rehome_line]
  · unfold effectZoneSet; split <;> rfl
  · unfold effectForceDefrost; split <;> rfl
@[simp] theorem codeEffect_asm (c : Code) (arg : Byte) (s : State) : (c.effect arg s).1.asm = s.asm := by
  cases c <;> simp only [Code.effect, effectSetCool, effectSetHeat, effectSetHumid, effectRead, effectTestDamper, latchRole,
    effectTestBlower, effectTestSpeed, effectCorruptCheck, effectMuteCount, effectClearTrip, effectNormal, rehome_asm]
  · unfold effectZoneSet; split <;> rfl
  · unfold effectForceDefrost; split <;> rfl
@[simp] theorem codeEffect_meas (c : Code) (arg : Byte) (s : State) : (c.effect arg s).1.meas = s.meas := by
  cases c <;> simp only [Code.effect, effectSetCool, effectSetHeat, effectSetHumid, effectRead, effectTestDamper, latchRole,
    effectTestBlower, effectTestSpeed, effectCorruptCheck, effectMuteCount, effectClearTrip, effectNormal, rehome_meas]
  · unfold effectZoneSet; split <;> rfl
  · unfold effectForceDefrost; split <;> rfl
@[simp] theorem codeEffect_coll (c : Code) (arg : Byte) (s : State) : (c.effect arg s).1.coll = s.coll := by
  cases c <;> simp only [Code.effect, effectSetCool, effectSetHeat, effectSetHumid, effectRead, effectTestDamper, latchRole,
    effectTestBlower, effectTestSpeed, effectCorruptCheck, effectMuteCount, effectClearTrip, effectNormal, rehome_coll]
  · unfold effectZoneSet; split <;> rfl
  · unfold effectForceDefrost; split <;> rfl
@[simp] theorem codeEffect_handler (c : Code) (arg : Byte) (s : State) : (c.effect arg s).1.handler = s.handler := by
  cases c <;> simp only [Code.effect, effectSetCool, effectSetHeat, effectSetHumid, effectRead, effectTestDamper, latchRole,
    effectTestBlower, effectTestSpeed, effectCorruptCheck, effectMuteCount, effectClearTrip, effectNormal, rehome_handler]
  · unfold effectZoneSet; split <;> rfl
  · unfold effectForceDefrost; split <;> rfl

/-! (carryOut d s).1 -/

@[simp] theorem carryOut_pending (d : Directive) (s : State) : (carryOut d s).1.pending = s.pending := by
  unfold carryOut
  split <;> simp
@[simp] theorem carryOut_rst (d : Directive) (s : State) : (carryOut d s).1.rst = s.rst := by
  unfold carryOut
  split <;> simp
@[simp] theorem carryOut_line (d : Directive) (s : State) : (carryOut d s).1.line = s.line := by
  unfold carryOut
  split <;> simp
@[simp] theorem carryOut_asm (d : Directive) (s : State) : (carryOut d s).1.asm = s.asm := by
  unfold carryOut
  split <;> simp
@[simp] theorem carryOut_meas (d : Directive) (s : State) : (carryOut d s).1.meas = s.meas := by
  unfold carryOut
  split <;> simp
@[simp] theorem carryOut_coll (d : Directive) (s : State) : (carryOut d s).1.coll = s.coll := by
  unfold carryOut
  split <;> simp
@[simp] theorem carryOut_handler (d : Directive) (s : State) : (carryOut d s).1.handler = s.handler := by
  unfold carryOut
  split <;> simp

/-! execute d s -/

@[simp] theorem execute_pending (d : Directive) (s : State) : (execute d s).pending = s.pending := by
  simp [execute]
@[simp] theorem execute_rst (d : Directive) (s : State) : (execute d s).rst = s.rst := by
  simp [execute]
@[simp] theorem execute_line (d : Directive) (s : State) : (execute d s).line = s.line := by
  simp [execute]
@[simp] theorem execute_asm (d : Directive) (s : State) : (execute d s).asm = s.asm := by
  simp [execute]
@[simp] theorem execute_meas (d : Directive) (s : State) : (execute d s).meas = s.meas := by
  simp [execute]
@[simp] theorem execute_coll (d : Directive) (s : State) : (execute d s).coll = s.coll := by
  simp [execute]
@[simp] theorem execute_handler (d : Directive) (s : State) : (execute d s).handler = s.handler := by
  simp [execute]

/-! oweReply d s -/

@[simp] theorem oweReply_pending (d : Directive) (s : State) : (oweReply d s).pending = s.pending := rfl
@[simp] theorem oweReply_rst (d : Directive) (s : State) : (oweReply d s).rst = s.rst := rfl
@[simp] theorem oweReply_line (d : Directive) (s : State) : (oweReply d s).line = s.line := rfl
@[simp] theorem oweReply_asm (d : Directive) (s : State) : (oweReply d s).asm = s.asm := rfl
@[simp] theorem oweReply_health (d : Directive) (s : State) : (oweReply d s).health = s.health := rfl
@[simp] theorem oweReply_meas (d : Directive) (s : State) : (oweReply d s).meas = s.meas := rfl
@[simp] theorem oweReply_coll (d : Directive) (s : State) : (oweReply d s).coll = s.coll := rfl
@[simp] theorem oweReply_zone (d : Directive) (s : State) : (oweReply d s).zone = s.zone := rfl
@[simp] theorem oweReply_damper (d : Directive) (s : State) : (oweReply d s).damper = s.damper := rfl
@[simp] theorem oweReply_handler (d : Directive) (s : State) : (oweReply d s).handler = s.handler := rfl
@[simp] theorem oweReply_outdoor (d : Directive) (s : State) : (oweReply d s).outdoor = s.outdoor := rfl
@[simp] theorem oweReply_out (d : Directive) (s : State) : (oweReply d s).out = s.out := rfl
@[simp] theorem oweReply_timers (d : Directive) (s : State) : (oweReply d s).timers = s.timers := rfl

/-! directiveRound s -/

@[simp] theorem directiveRound_pending (s : State) : (directiveRound s).pending = s.pending := by
  unfold directiveRound
  dsimp only
  split
  · rfl
  · split <;> simp
@[simp] theorem directiveRound_rst (s : State) : (directiveRound s).rst = s.rst := by
  unfold directiveRound
  dsimp only
  split
  · rfl
  · split <;> simp
@[simp] theorem directiveRound_line (s : State) : (directiveRound s).line = s.line := by
  unfold directiveRound
  dsimp only
  split
  · rfl
  · split <;> simp
@[simp] theorem directiveRound_asm (s : State) : (directiveRound s).asm = s.asm := by
  unfold directiveRound
  dsimp only
  split
  · rfl
  · split <;> simp
@[simp] theorem directiveRound_meas (s : State) : (directiveRound s).meas = s.meas := by
  unfold directiveRound
  dsimp only
  split
  · rfl
  · split <;> simp
@[simp] theorem directiveRound_coll (s : State) : (directiveRound s).coll = s.coll := by
  unfold directiveRound
  dsimp only
  split
  · rfl
  · split <;> simp
@[simp] theorem directiveRound_handler (s : State) : (directiveRound s).handler = s.handler := by
  unfold directiveRound
  dsimp only
  split
  · rfl
  · split <;> simp

/-! runDirective c src dst arg s -/

@[simp] theorem runDirective_pending (c : Code) (src dst : Nibble) (arg : Byte) (s : State) : (runDirective c src dst arg s).pending = s.pending := by
  unfold runDirective
  dsimp only
  split <;> simp
@[simp] theorem runDirective_rst (c : Code) (src dst : Nibble) (arg : Byte) (s : State) : (runDirective c src dst arg s).rst = s.rst := by
  unfold runDirective
  dsimp only
  split <;> simp
@[simp] theorem runDirective_line (c : Code) (src dst : Nibble) (arg : Byte) (s : State) : (runDirective c src dst arg s).line = s.line := by
  unfold runDirective
  dsimp only
  split <;> simp
@[simp] theorem runDirective_asm (c : Code) (src dst : Nibble) (arg : Byte) (s : State) : (runDirective c src dst arg s).asm = s.asm := by
  unfold runDirective
  dsimp only
  split <;> simp
@[simp] theorem runDirective_meas (c : Code) (src dst : Nibble) (arg : Byte) (s : State) : (runDirective c src dst arg s).meas = s.meas := by
  unfold runDirective
  dsimp only
  split <;> simp
@[simp] theorem runDirective_coll (c : Code) (src dst : Nibble) (arg : Byte) (s : State) : (runDirective c src dst arg s).coll = s.coll := by
  unfold runDirective
  dsimp only
  split <;> simp
@[simp] theorem runDirective_handler (c : Code) (src dst : Nibble) (arg : Byte) (s : State) : (runDirective c src dst arg s).handler = s.handler := by
  unfold runDirective
  dsimp only
  split <;> simp

/-! handOn s -/

@[simp] theorem handOn_pending (s : State) : (handOn s).pending = s.pending := by
  simp [handOn]
@[simp] theorem handOn_rst (s : State) : (handOn s).rst = s.rst := by
  simp [handOn]
@[simp] theorem handOn_line (s : State) : (handOn s).line = s.line := by
  simp [handOn]
@[simp] theorem handOn_asm (s : State) : (handOn s).asm = s.asm := by
  simp [handOn]
@[simp] theorem handOn_meas (s : State) : (handOn s).meas = s.meas := by
  simp [handOn]

/-! enterIsolated clash s -/

@[simp] theorem enterIsolated_pending (clash : Bool) (s : State) : (enterIsolated clash s).pending = s.pending := by
  simp [enterIsolated]
@[simp] theorem enterIsolated_rst (clash : Bool) (s : State) : (enterIsolated clash s).rst = s.rst := by
  simp [enterIsolated]
@[simp] theorem enterIsolated_meas (clash : Bool) (s : State) : (enterIsolated clash s).meas = s.meas := by
  simp [enterIsolated]

/-! decideRound v w s -/

@[simp] theorem decideRound_pending (v : Verdict) (w : View) (s : State) : (decideRound v w s).pending = s.pending := rfl
@[simp] theorem decideRound_rst (v : Verdict) (w : View) (s : State) : (decideRound v w s).rst = s.rst := rfl
@[simp] theorem decideRound_line (v : Verdict) (w : View) (s : State) : (decideRound v w s).line = s.line := rfl
@[simp] theorem decideRound_meas (v : Verdict) (w : View) (s : State) : (decideRound v w s).meas = s.meas := rfl
@[simp] theorem decideRound_coll (v : Verdict) (w : View) (s : State) : (decideRound v w s).coll = s.coll := rfl
@[simp] theorem decideRound_zone (v : Verdict) (w : View) (s : State) : (decideRound v w s).zone = s.zone := rfl
@[simp] theorem decideRound_damper (v : Verdict) (w : View) (s : State) : (decideRound v w s).damper = s.damper := rfl
@[simp] theorem decideRound_handler (v : Verdict) (w : View) (s : State) : (decideRound v w s).handler = s.handler := rfl
@[simp] theorem decideRound_outdoor (v : Verdict) (w : View) (s : State) : (decideRound v w s).outdoor = s.outdoor := rfl
@[simp] theorem decideRound_out (v : Verdict) (w : View) (s : State) : (decideRound v w s).out = s.out := rfl
@[simp] theorem decideRound_timers (v : Verdict) (w : View) (s : State) : (decideRound v w s).timers = s.timers := rfl

/-! linkMove v s -/

@[simp] theorem linkMove_pending (v : Verdict) (s : State) : (linkMove v s).pending = s.pending := by
  unfold linkMove listenMove joinedMove holdoverMove
  (repeat' split) <;> simp
@[simp] theorem linkMove_rst (v : Verdict) (s : State) : (linkMove v s).rst = s.rst := by
  unfold linkMove listenMove joinedMove holdoverMove
  (repeat' split) <;> simp
@[simp] theorem linkMove_meas (v : Verdict) (s : State) : (linkMove v s).meas = s.meas := by
  unfold linkMove listenMove joinedMove holdoverMove
  (repeat' split) <;> simp

/-! takeDecision v w s -/

@[simp] theorem takeDecision_pending (v : Verdict) (w : View) (s : State) : (takeDecision v w s).pending = s.pending := by
  unfold takeDecision
  split
  · dsimp only
    split <;> simp
  · rfl
@[simp] theorem takeDecision_rst (v : Verdict) (w : View) (s : State) : (takeDecision v w s).rst = s.rst := by
  unfold takeDecision
  split
  · dsimp only
    split <;> simp
  · rfl
@[simp] theorem takeDecision_meas (v : Verdict) (w : View) (s : State) : (takeDecision v w s).meas = s.meas := by
  unfold takeDecision
  split
  · dsimp only
    split <;> simp
  · rfl

/-! driveMark s -/

@[simp] theorem driveMark_pending (s : State) : (driveMark s).pending = s.pending := rfl
@[simp] theorem driveMark_rst (s : State) : (driveMark s).rst = s.rst := rfl
@[simp] theorem driveMark_asm (s : State) : (driveMark s).asm = s.asm := rfl
@[simp] theorem driveMark_health (s : State) : (driveMark s).health = s.health := rfl
@[simp] theorem driveMark_meas (s : State) : (driveMark s).meas = s.meas := rfl
@[simp] theorem driveMark_coll (s : State) : (driveMark s).coll = s.coll := rfl
@[simp] theorem driveMark_zone (s : State) : (driveMark s).zone = s.zone := rfl
@[simp] theorem driveMark_damper (s : State) : (driveMark s).damper = s.damper := rfl
@[simp] theorem driveMark_handler (s : State) : (driveMark s).handler = s.handler := rfl
@[simp] theorem driveMark_outdoor (s : State) : (driveMark s).outdoor = s.outdoor := rfl
@[simp] theorem driveMark_out (s : State) : (driveMark s).out = s.out := rfl
@[simp] theorem driveMark_dir (s : State) : (driveMark s).dir = s.dir := rfl

/-! paExpiry s -/

@[simp] theorem paExpiry_pending (s : State) : (paExpiry s).pending = s.pending := by
  unfold paExpiry
  split <;> rfl
@[simp] theorem paExpiry_rst (s : State) : (paExpiry s).rst = s.rst := by
  unfold paExpiry
  split <;> rfl
@[simp] theorem paExpiry_asm (s : State) : (paExpiry s).asm = s.asm := by
  unfold paExpiry
  split <;> rfl
@[simp] theorem paExpiry_health (s : State) : (paExpiry s).health = s.health := by
  unfold paExpiry
  split <;> rfl
@[simp] theorem paExpiry_meas (s : State) : (paExpiry s).meas = s.meas := by
  unfold paExpiry
  split <;> rfl
@[simp] theorem paExpiry_coll (s : State) : (paExpiry s).coll = s.coll := by
  unfold paExpiry
  split <;> rfl
@[simp] theorem paExpiry_zone (s : State) : (paExpiry s).zone = s.zone := by
  unfold paExpiry
  split <;> rfl
@[simp] theorem paExpiry_damper (s : State) : (paExpiry s).damper = s.damper := by
  unfold paExpiry
  split <;> rfl
@[simp] theorem paExpiry_handler (s : State) : (paExpiry s).handler = s.handler := by
  unfold paExpiry
  split <;> rfl
@[simp] theorem paExpiry_outdoor (s : State) : (paExpiry s).outdoor = s.outdoor := by
  unfold paExpiry
  split <;> rfl
@[simp] theorem paExpiry_out (s : State) : (paExpiry s).out = s.out := by
  unfold paExpiry
  split <;> rfl
@[simp] theorem paExpiry_dir (s : State) : (paExpiry s).dir = s.dir := by
  unfold paExpiry
  split <;> rfl

/-! lonePacer s -/

@[simp] theorem lonePacer_pending (s : State) : (lonePacer s).pending = s.pending := by
  simp [lonePacer]
@[simp] theorem lonePacer_rst (s : State) : (lonePacer s).rst = s.rst := by
  simp [lonePacer]
@[simp] theorem lonePacer_meas (s : State) : (lonePacer s).meas = s.meas := by
  simp [lonePacer]
@[simp] theorem lonePacer_zone (s : State) : (lonePacer s).zone = s.zone := by
  simp [lonePacer]
@[simp] theorem lonePacer_damper (s : State) : (lonePacer s).damper = s.damper := by
  simp [lonePacer]
@[simp] theorem lonePacer_handler (s : State) : (lonePacer s).handler = s.handler := by
  simp [lonePacer]
@[simp] theorem lonePacer_outdoor (s : State) : (lonePacer s).outdoor = s.outdoor := by
  simp [lonePacer]
@[simp] theorem lonePacer_out (s : State) : (lonePacer s).out = s.out := by
  simp [lonePacer]
@[simp] theorem lonePacer_dir (s : State) : (lonePacer s).dir = s.dir := by
  simp [lonePacer]

/-! runEnds s -/

@[simp] theorem runEnds_pending (s : State) : (runEnds s).pending = s.pending := rfl
@[simp] theorem runEnds_rst (s : State) : (runEnds s).rst = s.rst := rfl
@[simp] theorem runEnds_asm (s : State) : (runEnds s).asm = s.asm := rfl
@[simp] theorem runEnds_health (s : State) : (runEnds s).health = s.health := rfl
@[simp] theorem runEnds_meas (s : State) : (runEnds s).meas = s.meas := rfl
@[simp] theorem runEnds_coll (s : State) : (runEnds s).coll = s.coll := rfl
@[simp] theorem runEnds_zone (s : State) : (runEnds s).zone = s.zone := rfl
@[simp] theorem runEnds_damper (s : State) : (runEnds s).damper = s.damper := rfl
@[simp] theorem runEnds_handler (s : State) : (runEnds s).handler = s.handler := rfl
@[simp] theorem runEnds_outdoor (s : State) : (runEnds s).outdoor = s.outdoor := rfl
@[simp] theorem runEnds_out (s : State) : (runEnds s).out = s.out := rfl
@[simp] theorem runEnds_dir (s : State) : (runEnds s).dir = s.dir := rfl

/-! afterNoise s -/

@[simp] theorem afterNoise_pending (s : State) : (afterNoise s).pending = s.pending := by
  unfold afterNoise
  (repeat' split) <;> simp
@[simp] theorem afterNoise_rst (s : State) : (afterNoise s).rst = s.rst := by
  unfold afterNoise
  (repeat' split) <;> simp
@[simp] theorem afterNoise_meas (s : State) : (afterNoise s).meas = s.meas := by
  unfold afterNoise
  (repeat' split) <;> simp
@[simp] theorem afterNoise_zone (s : State) : (afterNoise s).zone = s.zone := by
  unfold afterNoise
  (repeat' split) <;> simp
@[simp] theorem afterNoise_damper (s : State) : (afterNoise s).damper = s.damper := by
  unfold afterNoise
  (repeat' split) <;> simp
@[simp] theorem afterNoise_handler (s : State) : (afterNoise s).handler = s.handler := by
  unfold afterNoise
  (repeat' split) <;> simp
@[simp] theorem afterNoise_outdoor (s : State) : (afterNoise s).outdoor = s.outdoor := by
  unfold afterNoise
  (repeat' split) <;> simp
@[simp] theorem afterNoise_out (s : State) : (afterNoise s).out = s.out := by
  unfold afterNoise
  (repeat' split) <;> simp
@[simp] theorem afterNoise_dir (s : State) : (afterNoise s).dir = s.dir := by
  unfold afterNoise
  (repeat' split) <;> simp

/-! cutShort levels s -/

@[simp] theorem cutShort_pending (levels : RoundBits) (s : State) : (cutShort levels s).pending = s.pending := by
  simp [cutShort]
@[simp] theorem cutShort_rst (levels : RoundBits) (s : State) : (cutShort levels s).rst = s.rst := by
  simp [cutShort]
@[simp] theorem cutShort_meas (levels : RoundBits) (s : State) : (cutShort levels s).meas = s.meas := by
  simp [cutShort]

/-! windowEnd w s -/

@[simp] theorem windowEnd_pending (w : Window) (s : State) : (windowEnd w s).pending = s.pending := by
  simp [windowEnd]
@[simp] theorem windowEnd_rst (w : Window) (s : State) : (windowEnd w s).rst = s.rst := by
  simp [windowEnd]
@[simp] theorem windowEnd_meas (w : Window) (s : State) : (windowEnd w s).meas = s.meas := by
  simp [windowEnd]

/-! roundStart s -/

@[simp] theorem roundStart_pending (s : State) : (roundStart s).pending = s.pending := by
  simp [roundStart]
@[simp] theorem roundStart_rst (s : State) : (roundStart s).rst = s.rst := by
  simp [roundStart]
@[simp] theorem roundStart_meas (s : State) : (roundStart s).meas = s.meas := by
  simp [roundStart]
@[simp] theorem roundStart_coll (s : State) : (roundStart s).coll = s.coll := by
  simp [roundStart]
@[simp] theorem roundStart_zone (s : State) : (roundStart s).zone = s.zone := by
  simp [roundStart]

/-! sampleUp l s -/

@[simp] theorem sampleUp_pending (l : Bool) (s : State) : (sampleUp l s).pending = s.pending := rfl
@[simp] theorem sampleUp_rst (l : Bool) (s : State) : (sampleUp l s).rst = s.rst := rfl
@[simp] theorem sampleUp_line (l : Bool) (s : State) : (sampleUp l s).line = s.line := rfl
@[simp] theorem sampleUp_asm (l : Bool) (s : State) : (sampleUp l s).asm = s.asm := rfl
@[simp] theorem sampleUp_health (l : Bool) (s : State) : (sampleUp l s).health = s.health := rfl
@[simp] theorem sampleUp_meas (l : Bool) (s : State) : (sampleUp l s).meas = s.meas := rfl
@[simp] theorem sampleUp_coll (l : Bool) (s : State) : (sampleUp l s).coll = s.coll := rfl
@[simp] theorem sampleUp_damper (l : Bool) (s : State) : (sampleUp l s).damper = s.damper := rfl
@[simp] theorem sampleUp_handler (l : Bool) (s : State) : (sampleUp l s).handler = s.handler := rfl
@[simp] theorem sampleUp_outdoor (l : Bool) (s : State) : (sampleUp l s).outdoor = s.outdoor := rfl
@[simp] theorem sampleUp_out (l : Bool) (s : State) : (sampleUp l s).out = s.out := rfl
@[simp] theorem sampleUp_dir (l : Bool) (s : State) : (sampleUp l s).dir = s.dir := rfl

/-! sampleDown l s -/

@[simp] theorem sampleDown_pending (l : Bool) (s : State) : (sampleDown l s).pending = s.pending := rfl
@[simp] theorem sampleDown_rst (l : Bool) (s : State) : (sampleDown l s).rst = s.rst := rfl
@[simp] theorem sampleDown_line (l : Bool) (s : State) : (sampleDown l s).line = s.line := rfl
@[simp] theorem sampleDown_asm (l : Bool) (s : State) : (sampleDown l s).asm = s.asm := rfl
@[simp] theorem sampleDown_health (l : Bool) (s : State) : (sampleDown l s).health = s.health := rfl
@[simp] theorem sampleDown_meas (l : Bool) (s : State) : (sampleDown l s).meas = s.meas := rfl
@[simp] theorem sampleDown_coll (l : Bool) (s : State) : (sampleDown l s).coll = s.coll := rfl
@[simp] theorem sampleDown_damper (l : Bool) (s : State) : (sampleDown l s).damper = s.damper := rfl
@[simp] theorem sampleDown_handler (l : Bool) (s : State) : (sampleDown l s).handler = s.handler := rfl
@[simp] theorem sampleDown_outdoor (l : Bool) (s : State) : (sampleDown l s).outdoor = s.outdoor := rfl
@[simp] theorem sampleDown_out (l : Bool) (s : State) : (sampleDown l s).out = s.out := rfl
@[simp] theorem sampleDown_dir (l : Bool) (s : State) : (sampleDown l s).dir = s.dir := rfl

/-! sampleMode l s -/

@[simp] theorem sampleMode_pending (l : Bool) (s : State) : (sampleMode l s).pending = s.pending := rfl
@[simp] theorem sampleMode_rst (l : Bool) (s : State) : (sampleMode l s).rst = s.rst := rfl
@[simp] theorem sampleMode_line (l : Bool) (s : State) : (sampleMode l s).line = s.line := rfl
@[simp] theorem sampleMode_asm (l : Bool) (s : State) : (sampleMode l s).asm = s.asm := rfl
@[simp] theorem sampleMode_health (l : Bool) (s : State) : (sampleMode l s).health = s.health := rfl
@[simp] theorem sampleMode_meas (l : Bool) (s : State) : (sampleMode l s).meas = s.meas := rfl
@[simp] theorem sampleMode_coll (l : Bool) (s : State) : (sampleMode l s).coll = s.coll := rfl
@[simp] theorem sampleMode_damper (l : Bool) (s : State) : (sampleMode l s).damper = s.damper := rfl
@[simp] theorem sampleMode_handler (l : Bool) (s : State) : (sampleMode l s).handler = s.handler := rfl
@[simp] theorem sampleMode_outdoor (l : Bool) (s : State) : (sampleMode l s).outdoor = s.outdoor := rfl
@[simp] theorem sampleMode_out (l : Bool) (s : State) : (sampleMode l s).out = s.out := rfl
@[simp] theorem sampleMode_dir (l : Bool) (s : State) : (sampleMode l s).dir = s.dir := rfl

/-! toKeySample s -/

@[simp] theorem toKeySample_pending (s : State) : (toKeySample s).pending = s.pending := rfl
@[simp] theorem toKeySample_rst (s : State) : (toKeySample s).rst = s.rst := rfl
@[simp] theorem toKeySample_asm (s : State) : (toKeySample s).asm = s.asm := rfl
@[simp] theorem toKeySample_health (s : State) : (toKeySample s).health = s.health := rfl
@[simp] theorem toKeySample_meas (s : State) : (toKeySample s).meas = s.meas := rfl
@[simp] theorem toKeySample_coll (s : State) : (toKeySample s).coll = s.coll := rfl
@[simp] theorem toKeySample_zone (s : State) : (toKeySample s).zone = s.zone := rfl
@[simp] theorem toKeySample_damper (s : State) : (toKeySample s).damper = s.damper := rfl
@[simp] theorem toKeySample_handler (s : State) : (toKeySample s).handler = s.handler := rfl
@[simp] theorem toKeySample_outdoor (s : State) : (toKeySample s).outdoor = s.outdoor := rfl
@[simp] theorem toKeySample_out (s : State) : (toKeySample s).out = s.out := rfl
@[simp] theorem toKeySample_dir (s : State) : (toKeySample s).dir = s.dir := rfl

/-- At a key sample nothing but time has passed, and the sampling clock starts again. -/
theorem toKeySample_eq (s : State) :
    toKeySample s =
      { elapseTo s.timers.keyClock Config.keySampleUs s with
        timers := { (elapseTo s.timers.keyClock Config.keySampleUs s).timers with keyClock := .started } } := rfl

/-! sampleKeys x s -/

@[simp] theorem sampleKeys_pending (x : KeySample) (s : State) : (sampleKeys x s).pending = s.pending := by
  unfold sampleKeys
  split <;> simp
@[simp] theorem sampleKeys_rst (x : KeySample) (s : State) : (sampleKeys x s).rst = s.rst := by
  unfold sampleKeys
  split <;> simp
@[simp] theorem sampleKeys_asm (x : KeySample) (s : State) : (sampleKeys x s).asm = s.asm := by
  unfold sampleKeys
  split <;> simp
@[simp] theorem sampleKeys_health (x : KeySample) (s : State) : (sampleKeys x s).health = s.health := by
  unfold sampleKeys
  split <;> simp
@[simp] theorem sampleKeys_meas (x : KeySample) (s : State) : (sampleKeys x s).meas = s.meas := by
  unfold sampleKeys
  split <;> simp
@[simp] theorem sampleKeys_coll (x : KeySample) (s : State) : (sampleKeys x s).coll = s.coll := by
  unfold sampleKeys
  split <;> simp
@[simp] theorem sampleKeys_damper (x : KeySample) (s : State) : (sampleKeys x s).damper = s.damper := by
  unfold sampleKeys
  split <;> simp
@[simp] theorem sampleKeys_handler (x : KeySample) (s : State) : (sampleKeys x s).handler = s.handler := by
  unfold sampleKeys
  split <;> simp
@[simp] theorem sampleKeys_outdoor (x : KeySample) (s : State) : (sampleKeys x s).outdoor = s.outdoor := by
  unfold sampleKeys
  split <;> simp
@[simp] theorem sampleKeys_out (x : KeySample) (s : State) : (sampleKeys x s).out = s.out := by
  unfold sampleKeys
  split <;> simp
@[simp] theorem sampleKeys_dir (x : KeySample) (s : State) : (sampleKeys x s).dir = s.dir := by
  unfold sampleKeys
  split <;> simp

/-! kindValues s -/

@[simp] theorem kindValues_pending (s : State) : (kindValues s).pending = s.pending := by
  unfold kindValues
  split <;> rfl
@[simp] theorem kindValues_rst (s : State) : (kindValues s).rst = s.rst := by
  unfold kindValues
  split <;> rfl
@[simp] theorem kindValues_line (s : State) : (kindValues s).line = s.line := by
  unfold kindValues
  split <;> rfl
@[simp] theorem kindValues_asm (s : State) : (kindValues s).asm = s.asm := by
  unfold kindValues
  split <;> rfl
@[simp] theorem kindValues_health (s : State) : (kindValues s).health = s.health := by
  unfold kindValues
  split <;> rfl
@[simp] theorem kindValues_meas (s : State) : (kindValues s).meas = s.meas := by
  unfold kindValues
  split <;> rfl
@[simp] theorem kindValues_coll (s : State) : (kindValues s).coll = s.coll := by
  unfold kindValues
  split <;> rfl
@[simp] theorem kindValues_damper (s : State) : (kindValues s).damper = s.damper := by
  unfold kindValues
  split <;> rfl
@[simp] theorem kindValues_handler (s : State) : (kindValues s).handler = s.handler := by
  unfold kindValues
  split <;> rfl
@[simp] theorem kindValues_out (s : State) : (kindValues s).out = s.out := by
  unfold kindValues
  split <;> rfl
@[simp] theorem kindValues_dir (s : State) : (kindValues s).dir = s.dir := by
  unfold kindValues
  split <;> rfl
@[simp] theorem kindValues_timers (s : State) : (kindValues s).timers = s.timers := by
  unfold kindValues
  split <;> rfl

/-! releaseReset s -/

@[simp] theorem releaseReset_pending (s : State) : (releaseReset s).pending = s.pending := by
  unfold releaseReset
  split <;> simp
@[simp] theorem releaseReset_line (s : State) : (releaseReset s).line = s.line := by
  unfold releaseReset
  split <;> simp
@[simp] theorem releaseReset_asm (s : State) : (releaseReset s).asm = s.asm := by
  unfold releaseReset
  split <;> simp
@[simp] theorem releaseReset_health (s : State) : (releaseReset s).health = s.health := by
  unfold releaseReset
  split <;> simp
@[simp] theorem releaseReset_meas (s : State) : (releaseReset s).meas = s.meas := by
  unfold releaseReset
  split <;> simp
@[simp] theorem releaseReset_coll (s : State) : (releaseReset s).coll = s.coll := by
  unfold releaseReset
  split <;> simp
@[simp] theorem releaseReset_damper (s : State) : (releaseReset s).damper = s.damper := by
  unfold releaseReset
  split <;> simp
@[simp] theorem releaseReset_handler (s : State) : (releaseReset s).handler = s.handler := by
  unfold releaseReset
  split <;> simp
@[simp] theorem releaseReset_out (s : State) : (releaseReset s).out = s.out := by
  unfold releaseReset
  split <;> simp
@[simp] theorem releaseReset_dir (s : State) : (releaseReset s).dir = s.dir := by
  unfold releaseReset
  split <;> simp

/-! takeSupplySample mv s -/

@[simp] theorem takeSupplySample_pending (mv : Nat) (s : State) : (takeSupplySample mv s).pending = s.pending := by
  unfold takeSupplySample
  (repeat' split) <;> simp

/-! supplySample mv s -/

@[simp] theorem supplySample_pending (mv : Nat) (s : State) : (supplySample mv s).pending = s.pending := by
  simp [supplySample, elapseTo]

/-! startMeasurement s -/

@[simp] theorem startMeasurement_pending (s : State) : (startMeasurement s).pending = s.pending := rfl
@[simp] theorem startMeasurement_rst (s : State) : (startMeasurement s).rst = s.rst := rfl
@[simp] theorem startMeasurement_line (s : State) : (startMeasurement s).line = s.line := rfl
@[simp] theorem startMeasurement_asm (s : State) : (startMeasurement s).asm = s.asm := rfl
@[simp] theorem startMeasurement_health (s : State) : (startMeasurement s).health = s.health := rfl
@[simp] theorem startMeasurement_coll (s : State) : (startMeasurement s).coll = s.coll := rfl
@[simp] theorem startMeasurement_zone (s : State) : (startMeasurement s).zone = s.zone := rfl
@[simp] theorem startMeasurement_damper (s : State) : (startMeasurement s).damper = s.damper := rfl
@[simp] theorem startMeasurement_handler (s : State) : (startMeasurement s).handler = s.handler := rfl
@[simp] theorem startMeasurement_outdoor (s : State) : (startMeasurement s).outdoor = s.outdoor := rfl
@[simp] theorem startMeasurement_out (s : State) : (startMeasurement s).out = s.out := rfl
@[simp] theorem startMeasurement_dir (s : State) : (startMeasurement s).dir = s.dir := rfl
@[simp] theorem startMeasurement_timers (s : State) : (startMeasurement s).timers = s.timers := rfl

/-! startRole s -/

@[simp] theorem startRole_pending (s : State) : (startRole s).pending = s.pending := by
  unfold startRole
  split <;> rfl
@[simp] theorem startRole_rst (s : State) : (startRole s).rst = s.rst := by
  unfold startRole
  split <;> rfl
@[simp] theorem startRole_line (s : State) : (startRole s).line = s.line := by
  unfold startRole
  split <;> rfl
@[simp] theorem startRole_asm (s : State) : (startRole s).asm = s.asm := by
  unfold startRole
  split <;> rfl
@[simp] theorem startRole_health (s : State) : (startRole s).health = s.health := by
  unfold startRole
  split <;> rfl
@[simp] theorem startRole_meas (s : State) : (startRole s).meas = s.meas := by
  unfold startRole
  split <;> rfl
@[simp] theorem startRole_coll (s : State) : (startRole s).coll = s.coll := by
  unfold startRole
  split <;> rfl
@[simp] theorem startRole_zone (s : State) : (startRole s).zone = s.zone := by
  unfold startRole
  split <;> rfl
@[simp] theorem startRole_handler (s : State) : (startRole s).handler = s.handler := by
  unfold startRole
  split <;> rfl
@[simp] theorem startRole_outdoor (s : State) : (startRole s).outdoor = s.outdoor := by
  unfold startRole
  split <;> rfl
@[simp] theorem startRole_dir (s : State) : (startRole s).dir = s.dir := by
  unfold startRole
  split <;> rfl

/-! startKeys s -/

@[simp] theorem startKeys_pending (s : State) : (startKeys s).pending = s.pending := by
  unfold startKeys
  split <;> rfl
@[simp] theorem startKeys_rst (s : State) : (startKeys s).rst = s.rst := by
  unfold startKeys
  split <;> rfl
@[simp] theorem startKeys_line (s : State) : (startKeys s).line = s.line := by
  unfold startKeys
  split <;> rfl
@[simp] theorem startKeys_asm (s : State) : (startKeys s).asm = s.asm := by
  unfold startKeys
  split <;> rfl
@[simp] theorem startKeys_health (s : State) : (startKeys s).health = s.health := by
  unfold startKeys
  split <;> rfl
@[simp] theorem startKeys_meas (s : State) : (startKeys s).meas = s.meas := by
  unfold startKeys
  split <;> rfl
@[simp] theorem startKeys_coll (s : State) : (startKeys s).coll = s.coll := by
  unfold startKeys
  split <;> rfl
@[simp] theorem startKeys_zone (s : State) : (startKeys s).zone = s.zone := by
  unfold startKeys
  split <;> rfl
@[simp] theorem startKeys_damper (s : State) : (startKeys s).damper = s.damper := by
  unfold startKeys
  split <;> rfl
@[simp] theorem startKeys_handler (s : State) : (startKeys s).handler = s.handler := by
  unfold startKeys
  split <;> rfl
@[simp] theorem startKeys_outdoor (s : State) : (startKeys s).outdoor = s.outdoor := by
  unfold startKeys
  split <;> rfl
@[simp] theorem startKeys_out (s : State) : (startKeys s).out = s.out := by
  unfold startKeys
  split <;> rfl
@[simp] theorem startKeys_dir (s : State) : (startKeys s).dir = s.dir := by
  unfold startKeys
  split <;> rfl

/-! clearForeignTrips s -/

@[simp] theorem clearForeignTrips_pending (s : State) : (clearForeignTrips s).pending = s.pending := by
  unfold clearForeignTrips
  split <;> rfl
@[simp] theorem clearForeignTrips_rst (s : State) : (clearForeignTrips s).rst = s.rst := by
  unfold clearForeignTrips
  split <;> rfl
@[simp] theorem clearForeignTrips_line (s : State) : (clearForeignTrips s).line = s.line := by
  unfold clearForeignTrips
  split <;> rfl
@[simp] theorem clearForeignTrips_asm (s : State) : (clearForeignTrips s).asm = s.asm := by
  unfold clearForeignTrips
  split <;> rfl
@[simp] theorem clearForeignTrips_health (s : State) : (clearForeignTrips s).health = s.health := by
  unfold clearForeignTrips
  split <;> rfl
@[simp] theorem clearForeignTrips_meas (s : State) : (clearForeignTrips s).meas = s.meas := by
  unfold clearForeignTrips
  split <;> rfl
@[simp] theorem clearForeignTrips_coll (s : State) : (clearForeignTrips s).coll = s.coll := by
  unfold clearForeignTrips
  split <;> rfl
@[simp] theorem clearForeignTrips_zone (s : State) : (clearForeignTrips s).zone = s.zone := by
  unfold clearForeignTrips
  split <;> rfl
@[simp] theorem clearForeignTrips_damper (s : State) : (clearForeignTrips s).damper = s.damper := by
  unfold clearForeignTrips
  split <;> rfl
@[simp] theorem clearForeignTrips_handler (s : State) : (clearForeignTrips s).handler = s.handler := by
  unfold clearForeignTrips
  split <;> rfl
@[simp] theorem clearForeignTrips_out (s : State) : (clearForeignTrips s).out = s.out := by
  unfold clearForeignTrips
  split <;> rfl
@[simp] theorem clearForeignTrips_dir (s : State) : (clearForeignTrips s).dir = s.dir := by
  unfold clearForeignTrips
  split <;> rfl
@[simp] theorem clearForeignTrips_timers (s : State) : (clearForeignTrips s).timers = s.timers := by
  unfold clearForeignTrips
  split <;> rfl

/-- Outside the ZONE and HANDLER roles the outdoor logic keeps what it holds; in them only LOCKOUT and the trip history
are cleared. -/
theorem clearForeignTrips_outdoor (s : State) :
    (clearForeignTrips s).outdoor =
      if s.role = .zone ∨ s.role = .handler then { s.outdoor with trips := [], lockout := false } else s.outdoor := by
  unfold clearForeignTrips
  split <;> simp_all

/-! latchStraps a p s -/

@[simp] theorem latchStraps_pending (a p : Nibble) (s : State) : (latchStraps a p s).pending = s.pending := by
  unfold latchStraps
  dsimp only
  split <;> simp
@[simp] theorem latchStraps_coll (a p : Nibble) (s : State) : (latchStraps a p s).coll = s.coll := by
  unfold latchStraps
  dsimp only
  split <;> simp
@[simp] theorem latchStraps_handler (a p : Nibble) (s : State) : (latchStraps a p s).handler = s.handler := by
  unfold latchStraps
  dsimp only
  split <;> simp
/-- The outdoor logic after the straps are latched (R186, and the opening of chapter 9). -/
theorem latchStraps_outdoor (a p : Nibble) (s : State) :
    (latchStraps a p s).outdoor =
      if roleOf a = .zone ∨ roleOf a = .handler then { s.outdoor with trips := [], lockout := false }
      else s.outdoor := by
  unfold latchStraps
  dsimp only
  split <;> simp only [clearForeignTrips_outdoor, State.role, startRole_outdoor, startMeasurement_outdoor,
    enterListen_outdoor, startKeys_outdoor] <;> rfl

/-! endPeriod c s -/

@[simp] theorem endPeriod_pending (c : PwmChannel) (s : State) : (endPeriod c s).pending = s.pending := by
  cases c <;> rfl
@[simp] theorem endPeriod_rst (c : PwmChannel) (s : State) : (endPeriod c s).rst = s.rst := by
  cases c <;> rfl
@[simp] theorem endPeriod_line (c : PwmChannel) (s : State) : (endPeriod c s).line = s.line := by
  cases c <;> rfl
@[simp] theorem endPeriod_asm (c : PwmChannel) (s : State) : (endPeriod c s).asm = s.asm := by
  cases c <;> rfl
@[simp] theorem endPeriod_health (c : PwmChannel) (s : State) : (endPeriod c s).health = s.health := by
  cases c <;> rfl
@[simp] theorem endPeriod_meas (c : PwmChannel) (s : State) : (endPeriod c s).meas = s.meas := by
  cases c <;> rfl
@[simp] theorem endPeriod_coll (c : PwmChannel) (s : State) : (endPeriod c s).coll = s.coll := by
  cases c <;> rfl
@[simp] theorem endPeriod_zone (c : PwmChannel) (s : State) : (endPeriod c s).zone = s.zone := by
  cases c <;> rfl
@[simp] theorem endPeriod_damper (c : PwmChannel) (s : State) : (endPeriod c s).damper = s.damper := by
  cases c <;> rfl
@[simp] theorem endPeriod_handler (c : PwmChannel) (s : State) : (endPeriod c s).handler = s.handler := by
  cases c <;> rfl
@[simp] theorem endPeriod_outdoor (c : PwmChannel) (s : State) : (endPeriod c s).outdoor = s.outdoor := by
  cases c <;> rfl
@[simp] theorem endPeriod_dir (c : PwmChannel) (s : State) : (endPeriod c s).dir = s.dir := by
  cases c <;> rfl

/-! endInterval l s -/

@[simp] theorem endInterval_pending (l : Load) (s : State) : (endInterval l s).pending = s.pending := by
  cases l <;> rfl
@[simp] theorem endInterval_rst (l : Load) (s : State) : (endInterval l s).rst = s.rst := by
  cases l <;> rfl
@[simp] theorem endInterval_line (l : Load) (s : State) : (endInterval l s).line = s.line := by
  cases l <;> rfl
@[simp] theorem endInterval_asm (l : Load) (s : State) : (endInterval l s).asm = s.asm := by
  cases l <;> rfl
@[simp] theorem endInterval_health (l : Load) (s : State) : (endInterval l s).health = s.health := by
  cases l <;> rfl
@[simp] theorem endInterval_meas (l : Load) (s : State) : (endInterval l s).meas = s.meas := by
  cases l <;> rfl
@[simp] theorem endInterval_coll (l : Load) (s : State) : (endInterval l s).coll = s.coll := by
  cases l <;> rfl
@[simp] theorem endInterval_zone (l : Load) (s : State) : (endInterval l s).zone = s.zone := by
  cases l <;> rfl
@[simp] theorem endInterval_damper (l : Load) (s : State) : (endInterval l s).damper = s.damper := by
  cases l <;> rfl
@[simp] theorem endInterval_handler (l : Load) (s : State) : (endInterval l s).handler = s.handler := by
  cases l <;> rfl
@[simp] theorem endInterval_outdoor (l : Load) (s : State) : (endInterval l s).outdoor = s.outdoor := by
  cases l <;> rfl
@[simp] theorem endInterval_dir (l : Load) (s : State) : (endInterval l s).dir = s.dir := by
  cases l <;> rfl

/-! tripChanged s -/

@[simp] theorem tripChanged_pending (s : State) : (tripChanged s).pending = s.pending := by
  unfold tripChanged
  split <;> rfl
@[simp] theorem tripChanged_rst (s : State) : (tripChanged s).rst = s.rst := by
  unfold tripChanged
  split <;> rfl
@[simp] theorem tripChanged_line (s : State) : (tripChanged s).line = s.line := by
  unfold tripChanged
  split <;> rfl
@[simp] theorem tripChanged_asm (s : State) : (tripChanged s).asm = s.asm := by
  unfold tripChanged
  split <;> rfl
@[simp] theorem tripChanged_health (s : State) : (tripChanged s).health = s.health := by
  unfold tripChanged
  split <;> rfl
@[simp] theorem tripChanged_meas (s : State) : (tripChanged s).meas = s.meas := by
  unfold tripChanged
  split <;> rfl
@[simp] theorem tripChanged_coll (s : State) : (tripChanged s).coll = s.coll := by
  unfold tripChanged
  split <;> rfl
@[simp] theorem tripChanged_zone (s : State) : (tripChanged s).zone = s.zone := by
  unfold tripChanged
  split <;> rfl
@[simp] theorem tripChanged_damper (s : State) : (tripChanged s).damper = s.damper := by
  unfold tripChanged
  split <;> rfl
@[simp] theorem tripChanged_handler (s : State) : (tripChanged s).handler = s.handler := by
  unfold tripChanged
  split <;> rfl
@[simp] theorem tripChanged_dir (s : State) : (tripChanged s).dir = s.dir := by
  unfold tripChanged
  split <;> rfl

/-! takeTripSample b s -/

@[simp] theorem takeTripSample_pending (b : Bool) (s : State) : (takeTripSample b s).pending = s.pending := by
  unfold takeTripSample
  (repeat' split) <;> simp
@[simp] theorem takeTripSample_rst (b : Bool) (s : State) : (takeTripSample b s).rst = s.rst := by
  unfold takeTripSample
  (repeat' split) <;> simp
@[simp] theorem takeTripSample_line (b : Bool) (s : State) : (takeTripSample b s).line = s.line := by
  unfold takeTripSample
  (repeat' split) <;> simp
@[simp] theorem takeTripSample_asm (b : Bool) (s : State) : (takeTripSample b s).asm = s.asm := by
  unfold takeTripSample
  (repeat' split) <;> simp
@[simp] theorem takeTripSample_health (b : Bool) (s : State) : (takeTripSample b s).health = s.health := by
  unfold takeTripSample
  (repeat' split) <;> simp
@[simp] theorem takeTripSample_meas (b : Bool) (s : State) : (takeTripSample b s).meas = s.meas := by
  unfold takeTripSample
  (repeat' split) <;> simp
@[simp] theorem takeTripSample_coll (b : Bool) (s : State) : (takeTripSample b s).coll = s.coll := by
  unfold takeTripSample
  (repeat' split) <;> simp
@[simp] theorem takeTripSample_zone (b : Bool) (s : State) : (takeTripSample b s).zone = s.zone := by
  unfold takeTripSample
  (repeat' split) <;> simp
@[simp] theorem takeTripSample_damper (b : Bool) (s : State) : (takeTripSample b s).damper = s.damper := by
  unfold takeTripSample
  (repeat' split) <;> simp
@[simp] theorem takeTripSample_handler (b : Bool) (s : State) : (takeTripSample b s).handler = s.handler := by
  unfold takeTripSample
  (repeat' split) <;> simp
@[simp] theorem takeTripSample_dir (b : Bool) (s : State) : (takeTripSample b s).dir = s.dir := by
  unfold takeTripSample
  (repeat' split) <;> simp

/-! tripSample b s -/

@[simp] theorem tripSample_pending (b : Bool) (s : State) : (tripSample b s).pending = s.pending := by
  simp [tripSample, elapseTo]
@[simp] theorem tripSample_rst (b : Bool) (s : State) : (tripSample b s).rst = s.rst := by
  simp [tripSample, elapseTo]
@[simp] theorem tripSample_asm (b : Bool) (s : State) : (tripSample b s).asm = s.asm := by
  simp [tripSample, elapseTo]
@[simp] theorem tripSample_health (b : Bool) (s : State) : (tripSample b s).health = s.health := by
  simp [tripSample, elapseTo]
@[simp] theorem tripSample_meas (b : Bool) (s : State) : (tripSample b s).meas = s.meas := by
  simp [tripSample, elapseTo]
@[simp] theorem tripSample_coll (b : Bool) (s : State) : (tripSample b s).coll = s.coll := by
  simp [tripSample, elapseTo]
@[simp] theorem tripSample_zone (b : Bool) (s : State) : (tripSample b s).zone = s.zone := by
  simp [tripSample, elapseTo]
@[simp] theorem tripSample_damper (b : Bool) (s : State) : (tripSample b s).damper = s.damper := by
  simp [tripSample, elapseTo]
@[simp] theorem tripSample_handler (b : Bool) (s : State) : (tripSample b s).handler = s.handler := by
  simp [tripSample, elapseTo]
@[simp] theorem tripSample_dir (b : Bool) (s : State) : (tripSample b s).dir = s.dir := by
  simp [tripSample, elapseTo]

end Sys2Proof.Machine
end

