-- ==== Sys2Proof/Laws/Decision.lean ====
section
/-! SUPPORT. What a decision on a round can do, said once: every later proof about a decision goes by these cases. -/

namespace Sys2Proof.Machine

@[simp] theorem decideRound_link (v : Verdict) (w : View) (s : State) :
    (decideRound v w s).health.link = s.health.link := rfl

@[simp] theorem decideRound_joining (v : Verdict) (w : View) (s : State) :
    (decideRound v w s).health.joining = s.health.joining := rfl

@[simp] theorem decideRound_badRun (v : Verdict) (w : View) (s : State) :
    (decideRound v w s).health.badRun = s.health.badRun := rfl

@[simp] theorem decideRound_addressClash (v : Verdict) (w : View) (s : State) :
    (decideRound v w s).health.addressClash = s.health.addressClash := rfl

@[simp] theorem decideRound_tests (v : Verdict) (w : View) (s : State) :
    (decideRound v w s).dir.tests = s.dir.tests := by
  unfold decideRound DirectiveUnit.decided; dsimp only; split <;> rfl

@[simp] theorem decideRound_tracker (v : Verdict) (w : View) (s : State) :
    (decideRound v w s).dir.tracker = s.dir.tracker := by
  unfold decideRound DirectiveUnit.decided; dsimp only; split <;> rfl

@[simp] theorem decideRound_image (v : Verdict) (w : View) (s : State) :
    (decideRound v w s).asm.image = s.asm.image := by
  unfold decideRound Assembler.decided; dsimp only
  split
  · split <;> rfl
  · rfl

/-- The station after a bad decision in LISTEN, JOINED or HOLDOVER that keeps it off ISOLATED, or after an accepted one
in LISTEN before the eighth: only the link state and the two counts of the link state machine move. -/
def State.counted (s : State) (link : LinkState) (badRun joining : Nat) : State :=
  { s with health := { s.health with link := link, badRun := badRun, joining := joining } }

/-- The station that hands an accepted round on. -/
def State.joinedAt (s : State) (joining : Nat) (index : Nibble) : State :=
  { s with
    health := { s.health with link := .joined, badRun := 0, joining := joining }
    asm := { s.asm with index := index } }

/-- The outcomes of a decision (R37, R39, R48, R49, R51, R53, R54). -/
theorem takeDecision_cases (v : Verdict) (w : View) (s : State) :
    (s.decides = false ∧ takeDecision v w s = s) ∨
    (s.decides = true ∧ clashes v (decideRound v w s) = true ∧
      takeDecision v w s = enterIsolated true (decideRound v w s)) ∨
    (s.health.link = .holdover ∧ v.isAccepted = false ∧ 30 ≤ s.health.badRun + 1 ∧
      takeDecision v w s = enterIsolated false (decideRound v w s)) ∨
    (s.decides = true ∧ v.isAccepted = true ∧ clashes v (decideRound v w s) = false ∧
      ∃ joining index, joining ≤ s.health.joining ∧
        takeDecision v w s = handOn ((decideRound v w s).joinedAt joining index)) ∨
    (∃ link badRun joining, takeDecision v w s = (decideRound v w s).counted link badRun joining ∧
      ((s.health.link = .listen ∧ link = .listen ∧ badRun = s.health.badRun ∧ joining < 8) ∨
        (s.health.link = .joined ∧ link = .joined ∧ badRun = s.health.badRun + 1 ∧ badRun < 4 ∧
          joining = s.health.joining) ∨
        (s.health.link = .joined ∧ link = .holdover ∧ badRun = s.health.badRun + 1 ∧ 4 ≤ badRun ∧
          joining = s.health.joining) ∨
        (s.health.link = .holdover ∧ link = .holdover ∧ badRun = s.health.badRun + 1 ∧ badRun < 30 ∧
          joining = s.health.joining))) := by
  unfold takeDecision
  by_cases hd : s.decides = true
  · rw [if_pos hd]
    dsimp only
    by_cases hc : clashes v (decideRound v w s) = true
    · exact .inr (.inl ⟨hd, hc, by rw [if_pos hc]⟩)
    · rw [if_neg hc]
      have hc' : clashes v (decideRound v w s) = false := by simpa using hc
      unfold linkMove
      rw [decideRound_link]
      cases hl : s.health.link with
      | quiet => simp [State.decides, hl] at hd
      | isolated => simp [State.decides, hl] at hd
      | listen =>
        dsimp only
        unfold listenMove
        by_cases hv : v.isAccepted = true
        · rw [if_pos hv, decideRound_joining]
          by_cases hj : 8 ≤ s.health.joining + 1
          · rw [if_pos hj]
            exact .inr (.inr (.inr (.inl ⟨hd, hv, hc', 0, _, Nat.zero_le _, rfl⟩)))
          · rw [if_neg hj]
            refine .inr (.inr (.inr (.inr ⟨.listen, s.health.badRun, s.health.joining + 1, ?_, .inl ⟨rfl, rfl, rfl, by omega⟩⟩)))
            simp [State.counted, ← hl, decideRound, Health.decided]
        · rw [if_neg hv]
          refine .inr (.inr (.inr (.inr ⟨.listen, s.health.badRun, 0, ?_, .inl ⟨rfl, rfl, rfl, by omega⟩⟩)))
          simp [State.counted, ← hl, decideRound, Health.decided]
      | joined =>
        dsimp only
        unfold joinedMove
        by_cases hv : v.isAccepted = true
        · rw [if_pos hv]
          exact .inr (.inr (.inr (.inl ⟨hd, hv, hc', s.health.joining, _, Nat.le_refl _, rfl⟩)))
        · rw [if_neg hv, decideRound_badRun]
          by_cases hj : 4 ≤ s.health.badRun + 1
          · rw [if_pos hj]
            exact .inr (.inr (.inr (.inr ⟨.holdover, _, s.health.joining, rfl, .inr (.inr (.inl ⟨rfl, rfl, rfl, hj, rfl⟩))⟩)))
          · rw [if_neg hj]
            refine .inr (.inr (.inr (.inr ⟨.joined, _, s.health.joining, ?_, .inr (.inl ⟨rfl, rfl, rfl, by omega, rfl⟩)⟩)))
            simp [State.counted, ← hl, decideRound, Health.decided]
      | holdover =>
        dsimp only
        unfold holdoverMove
        by_cases hv : v.isAccepted = true
        · rw [if_pos hv]
          exact .inr (.inr (.inr (.inl ⟨hd, hv, hc', s.health.joining, _, Nat.le_refl _, rfl⟩)))
        · rw [if_neg hv, decideRound_badRun]
          by_cases hj : 30 ≤ s.health.badRun + 1
          · rw [if_pos hj]
            exact .inr (.inr (.inl ⟨rfl, by simpa using hv, hj, rfl⟩))
          · rw [if_neg hj]
            refine .inr (.inr (.inr (.inr ⟨.holdover, _, s.health.joining, ?_, .inr (.inr (.inr ⟨rfl, rfl, rfl, by omega, rfl⟩))⟩)))
            simp [State.counted, ← hl, decideRound, Health.decided]
  · exact .inl ⟨by simpa using hd, by rw [if_neg hd]⟩

/-- What the directive unit does at an accepted round handed on: it updates the tracker, executes at most the view's
directive, and sets the reply (R176 to R178). -/
theorem directiveRound_cases (s : State) :
    (unpackDirective s.health.view.directive = none ∧
      directiveRound s = { s with dir := { s.dir with tracker := .cleared, reply := none } }) ∨
    ∃ d, unpackDirective s.health.view.directive = some d ∧
      (directiveRound s = oweReply d { s with dir := { s.dir with tracker := s.dir.tracker.update (some d) } } ∨
        (d.addressedTo s.rst.address = true ∧ (s.dir.tracker.update (some d)).count = 3 ∧
          (s.dir.tracker.update (some d)).executed = none ∧
          directiveRound s =
            oweReply d (execute d { s with dir := { s.dir with tracker := s.dir.tracker.update (some d) } }))) := by
  unfold directiveRound
  dsimp only
  cases hf : unpackDirective s.health.view.directive with
  | none => exact .inl ⟨rfl, rfl⟩
  | some d =>
    refine .inr ⟨d, rfl, ?_⟩
    dsimp only
    split
    · next h => exact .inr ⟨h.2.2, h.1, h.2.1, rfl⟩
    · exact .inl rfl

/-- An execution carries out an accepted code, or does nothing but mark the directive executed (R177). -/
theorem execute_cases (d : Directive) (s : State) :
    (∃ c, acceptedCode s.role d = some c ∧
      execute d s =
        { (c.effect d.arg s).1 with
          dir := { (c.effect d.arg s).1.dir with tracker := ⟨some d, 3, some (resultOf d (c.effect d.arg s).2)⟩ } }) ∨
    (acceptedCode s.role d = none ∧
      execute d s = { s with dir := { s.dir with tracker := ⟨some d, 3, some ⟨false, d.arg⟩⟩ } }) := by
  unfold execute carryOut
  dsimp only
  cases h : acceptedCode s.role d with
  | none => exact .inr ⟨rfl, rfl⟩
  | some c => exact .inl ⟨c, rfl, rfl⟩

/-- A code that is accepted is for the role, and its argument is in its set (R177). -/
theorem acceptedCode_some {r : Role} {d : Directive} {c : Code} (h : acceptedCode r d = some c) :
    codeOf d.code = some c ∧ c.forRole r = true ∧ c.argOk d.arg = true := by
  unfold acceptedCode at h
  cases hc : codeOf d.code with
  | none => rw [hc] at h; cases h
  | some c' =>
    rw [hc] at h
    dsimp only at h
    split at h
    · next hg => cases h; simpa using hg
    · cases h

end Sys2Proof.Machine
end

