-- ==== Sys2Proof/Laws/Settings.lean ====
section
/-! SUPPORT. The settings path: what each step of it leaves, and which operations leave the settings alone. -/

namespace Sys2Proof.Machine

theorem limitInt_mem {lo hi : Int} (h : lo ≤ hi) (x : Int) : lo ≤ limitInt lo hi x ∧ limitInt lo hi x ≤ hi := by
  unfold limitInt; omega

theorem limitTo_mem {lo hi : Nat} (h : lo ≤ hi) (x : Nat) : lo ≤ limitTo lo hi x ∧ limitTo lo hi x ≤ hi := by
  unfold limitTo; omega

theorem default_sound : Settings.default.Sound := by
  refine ⟨⟨?_, ?_⟩, ⟨?_, ?_⟩, ?_, ⟨?_, ?_⟩⟩ <;> decide

theorem setSc_sound {z : Settings} (h : z.Sound) (x : Int) : (z.setSc x).Sound := by
  obtain ⟨⟨_, _⟩, ⟨_, _⟩, _, ⟨_, _⟩⟩ := h
  simp only [Settings.Sound, Settings.setSc, limitInt]
  omega

theorem setSh_sound {z : Settings} (h : z.Sound) (x : Int) : (z.setSh x).Sound := by
  obtain ⟨⟨_, _⟩, ⟨_, _⟩, _, ⟨_, _⟩⟩ := h
  simp only [Settings.Sound, Settings.setSh, limitInt]
  omega

theorem moveUp_sound {z : Settings} (h : z.Sound) : z.moveUp.Sound := by
  obtain ⟨⟨_, _⟩, ⟨_, _⟩, _, ⟨_, _⟩⟩ := h
  simp only [Settings.Sound, Settings.moveUp, limitInt]
  omega

theorem moveDown_sound {z : Settings} (h : z.Sound) : z.moveDown.Sound := by
  obtain ⟨⟨_, _⟩, ⟨_, _⟩, _, ⟨_, _⟩⟩ := h
  simp only [Settings.Sound, Settings.moveDown, limitInt]
  omega

theorem setHl_sound {z : Settings} (h : z.Sound) (x : Int) : (z.setHl x).Sound :=
  ⟨h.1, h.2.1, h.2.2.1, limitInt_mem (by decide) x⟩

theorem setSetting_sound {z : Settings} (h : z.Sound) (x : ZoneSetting) : (z.setSetting x).Sound := h

theorem pressUp_sound {z : Settings} (h : z.Sound) : z.pressUp.Sound := by
  unfold Settings.pressUp
  split
  · exact moveUp_sound h
  · exact setSc_sound h _
  · exact setSh_sound h _
  · exact h

theorem pressDown_sound {z : Settings} (h : z.Sound) : z.pressDown.Sound := by
  unfold Settings.pressDown
  split
  · exact moveDown_sound h
  · exact setSc_sound h _
  · exact setSh_sound h _
  · exact h

/-! ### The operations that leave the settings alone -/

@[simp] theorem zoneRound_settings (z : Settings) (s : State) : (zoneRound z s).zone.settings = s.zone.settings := rfl

@[simp] theorem moveTo_settings (c : Call) (tm rh : Option Int) (z : Zone) : (z.moveTo c tm rh).settings = z.settings := by
  cases c <;> rfl

@[simp] theorem zoneTick_settings (s : State) : (zoneTick s).zone.settings = s.zone.settings := by
  unfold zoneTick Zone.tick
  dsimp only
  split <;> simp

@[simp] theorem roleTick_settings (s : State) : (roleTick s).zone.settings = s.zone.settings := by
  unfold roleTick
  split <;> simp

@[simp] theorem secondTick_settings (s : State) : (secondTick s).zone.settings = s.zone.settings := by
  unfold secondTick consumed
  split
  · split <;> simp
  · rfl

@[simp] theorem roleRound_settings (z : Settings) (s : State) : (roleRound z s).zone.settings = s.zone.settings := by
  unfold roleRound
  split <;> simp

@[simp] theorem enterIsolated_settings (clash : Bool) (s : State) :
    (enterIsolated clash s).zone.settings = s.zone.settings := by simp [enterIsolated]

end Sys2Proof.Machine
end

