-- ==== Sys2Proof/Laws/Motor.lean ====
section
/-! SUPPORT. The damper machine with its bridge: every move of it keeps the counter, the targets, the fault, and the
drive that the bridge is asked for. -/

namespace Sys2Proof.Machine

/-- What a settled damper machine keeps: its ranges, and the bridge asked for the drive of its state (R120, R168). -/
def Motor.Sound (m : Motor) : Prop :=
  m.d.Sound ∧ m.b.asked = m.d.drive ∧ (∀ h, m.d.drive = some h → m.d.lastDrive = h) ∧
    ∀ h, m.b.conducting = some h → m.b.asked = some h

/-- A machine between two states: all but the agreement of state, drive and fault. -/
def Motor.Loose (m : Motor) : Prop :=
  m.d.position ≤ 400 ∧ m.d.target ≤ 400 ∧ m.d.pending ≤ 400 ∧ m.d.percent ≤ 100 ∧ m.d.stalls ≤ 3 ∧
    ∀ h, m.b.conducting = some h → m.b.asked = some h

theorem Motor.Sound.loose {m : Motor} (h : m.Sound) : m.Loose := by
  obtain ⟨⟨h1, h2, h3, h4, h5, -⟩, -, -, h6⟩ := h
  exact ⟨h1, h2, h3, h4, h5, h6⟩

/-- A request leaves only the half of its own direction conducting (R168). -/
theorem Bridge.ask_spec (drive : Option Direction) (b : Bridge) :
    (b.ask drive).asked = drive ∧ ∀ h, (b.ask drive).conducting = some h → drive = some h := by
  refine ⟨rfl, ?_⟩
  intro h hc
  unfold Bridge.ask Bridge.stopUnless at hc
  dsimp only at hc
  cases hb : b.conducting with
  | none => rw [hb] at hc; dsimp only at hc; rw [hb] at hc; cases hc
  | some x =>
    rw [hb] at hc
    dsimp only at hc
    split at hc
    · next e => rw [hb] at hc; cases hc; exact e
    · cases hc

@[simp] theorem ask_d (drive : Option Direction) (m : Motor) : (m.ask drive).d = m.d := rfl
@[simp] theorem stop_d (m : Motor) : m.stop.d = m.d := rfl
@[simp] theorem stop_b (m : Motor) : m.stop.b = m.b.ask none := rfl

theorem stop_loose {m : Motor} (h : m.Loose) : m.stop.Loose := by
  obtain ⟨h1, h2, h3, h4, h5, -⟩ := h
  exact ⟨h1, h2, h3, h4, h5, fun x hx => (Bridge.ask_spec none m.b).2 x hx⟩

theorem stop_asked (m : Motor) : m.stop.b.asked = none := rfl

/-- A drive toward the target: the state, the direction and the bridge agree. -/
theorem drive_travel_sound {m : Motor} (h : m.Loose) (hf : m.d.fault = false) (dir : Direction) :
    (m.drive dir (travelState dir)).Sound := by
  obtain ⟨h1, h2, h3, h4, h5, -⟩ := h
  refine ⟨⟨h1, h2, h3, h4, h5, ?_, ?_⟩, ?_, ?_, fun x hx => (Bridge.ask_spec (some dir) m.b).2 x hx⟩
  · cases dir <;> simp [Motor.drive, travelState, hf]
  · cases dir <;> simp [Motor.drive, travelState]
  · cases dir <;> rfl
  · intro x hx
    cases dir <;> · cases hx; rfl

/-- A homing drive (R126). -/
theorem drive_homing_sound {m : Motor} (h : m.Loose) (hf : m.d.fault = false) (hh : m.d.homed = false) :
    (m.drive .closing .homing).Sound := by
  obtain ⟨h1, h2, h3, h4, h5, -⟩ := h
  refine ⟨⟨h1, h2, h3, h4, h5, ?_, fun _ => hh⟩, rfl, ?_, fun x hx => (Bridge.ask_spec (some .closing) m.b).2 x hx⟩
  · simp [Motor.drive, hf]
  · intro x hx; cases hx; rfl

theorem enterHold_sound {m : Motor} (h : m.Loose) (hf : m.d.fault = false) (ha : m.b.asked = none) :
    m.enterHold.Sound := by
  obtain ⟨h1, h2, h3, h4, -, h6⟩ := h
  refine ⟨⟨h1, h2, h3, h4, Nat.zero_le _, ?_, ?_⟩, ha, ?_, h6⟩
  · simp [Motor.enterHold, hf]
  · simp [Motor.enterHold]
  · intro x hx; cases hx

theorem startDrive_sound {m : Motor} (h : m.Loose) (hf : m.d.fault = false) (ha : m.b.asked = none) (dir : Direction) :
    (m.startDrive dir).Sound := by
  unfold Motor.startDrive
  split
  · exact drive_travel_sound h hf dir
  · obtain ⟨h1, h2, h3, h4, h5, h6⟩ := h
    refine ⟨⟨h1, h2, h3, h4, h5, ?_, ?_⟩, ha, ?_, h6⟩
    · simp [hf]
    · simp
    · intro x hx; cases hx

theorem compareFromHold_sound {m : Motor} (h : m.Loose) (hf : m.d.fault = false) (ha : m.b.asked = none) :
    m.compareFromHold.Sound := by
  unfold Motor.compareFromHold
  split
  · exact enterHold_sound h hf ha
  · exact startDrive_sound h hf ha _

/-- The comparison keeps a sound machine sound (R121, R122). -/
theorem compare_sound {m : Motor} (h : m.Sound) : m.compare.Sound := by
  have hl := h.loose
  have hasked := h.2.1
  have hfault := h.1.2.2.2.2.2.1
  unfold Motor.compare
  cases hm : m.d.machine with
  | parked => exact h
  | homing => exact h
  | retry => exact h
  | fault => exact h
  | hold =>
    have hf : m.d.fault = false := by
      cases hx : m.d.fault with
      | false => rfl
      | true => rw [hfault.1 hx] at hm; cases hm
    exact compareFromHold_sound hl hf (by rw [hasked]; simp [Damper.drive, hm])
  | opening =>
    have hf : m.d.fault = false := by
      cases hx : m.d.fault with
      | false => rfl
      | true => rw [hfault.1 hx] at hm; cases hm
    dsimp only
    split_ifs
    · exact enterHold_sound (stop_loose hl) hf rfl
    · exact h
    · exact startDrive_sound (stop_loose hl) hf rfl _
  | closing =>
    have hf : m.d.fault = false := by
      cases hx : m.d.fault with
      | false => rfl
      | true => rw [hfault.1 hx] at hm; cases hm
    dsimp only
    split_ifs
    · exact enterHold_sound (stop_loose hl) hf rfl
    · exact h
    · exact startDrive_sound (stop_loose hl) hf rfl _
  | pause =>
    have hf : m.d.fault = false := by
      cases hx : m.d.fault with
      | false => rfl
      | true => rw [hfault.1 hx] at hm; cases hm
    dsimp only
    split_ifs
    · exact h
    · exact enterHold_sound hl hf (by rw [hasked]; simp [Damper.drive, hm])
    · exact drive_travel_sound hl hf _
    · exact h

theorem setTarget_sound {m : Motor} (h : m.Sound) {n : Nat} (hn : n ≤ 400) : (m.setTarget n).Sound := by
  unfold Motor.setTarget
  split
  · exact h
  · apply compare_sound
    obtain ⟨⟨h1, -, h3, h4, h5, h6⟩, h7, h8, h9⟩ := h
    exact ⟨⟨h1, hn, h3, h4, h5, h6⟩, h7, h8, h9⟩

theorem countPulse_le (dir : Direction) {n : Nat} (h : n ≤ 400) : countPulse dir n ≤ 400 := by
  cases dir <;> simp only [countPulse] <;> omega

theorem pulse_sound {m : Motor} (h : m.Sound) : m.pulse.Sound := by
  unfold Motor.pulse
  split
  · exact h
  · apply compare_sound
    obtain ⟨⟨h1, h2, h3, h4, h5, h6⟩, h7, h8, h9⟩ := h
    exact ⟨⟨countPulse_le _ h1, h2, h3, h4, h5, h6⟩, h7, h8, h9⟩

theorem countStall_sound {m : Motor} (h : m.Loose) (hf : m.d.fault = false) (ha : m.b.asked = none) :
    m.countStall.Sound := by
  obtain ⟨h1, h2, h3, h4, h5, h6⟩ := h
  unfold Motor.countStall
  split
  · refine ⟨⟨h1, h2, h3, h4, ?_, ?_, ?_⟩, ha, ?_, h6⟩
    · dsimp only; omega
    · simp [hf]
    · simp
    · intro x hx; cases hx
  · refine ⟨⟨h1, h2, h3, h4, Nat.le_refl _, ?_, ?_⟩, ha, ?_, h6⟩
    · simp
    · simp
    · intro x hx; cases hx

/-- A driving machine holds no fault. -/
theorem Motor.Sound.fault_of_driving {m : Motor} (h : m.Sound) (hd : m.d.machine ≠ .fault) : m.d.fault = false := by
  cases hx : m.d.fault with
  | false => rfl
  | true => exact absurd (h.1.2.2.2.2.2.1.1 hx) hd

theorem stalled_sound {m : Motor} (h : m.Sound) : m.stalled.Sound := by
  have hl := stop_loose h.loose
  unfold Motor.stalled
  cases hm : m.d.machine with
  | parked => exact h
  | hold => exact h
  | pause => exact h
  | retry => exact h
  | fault => exact h
  | homing =>
    have hf := h.fault_of_driving (by rw [hm]; decide)
    obtain ⟨-, h2, h3, h4, -, h6⟩ := hl
    exact compareFromHold_sound (m := { m.stop with d := _, t := _ }) ⟨Nat.zero_le _, h2, h3, h4, Nat.zero_le _, h6⟩ hf rfl
  | opening => exact countStall_sound hl (h.fault_of_driving (by rw [hm]; decide)) rfl
  | closing =>
    have hf := h.fault_of_driving (by rw [hm]; decide)
    dsimp only
    split_ifs
    · obtain ⟨-, h2, h3, h4, -, h6⟩ := hl
      exact compareFromHold_sound (m := { m.stop with d := _ }) ⟨Nat.zero_le _, h2, h3, h4, Nat.zero_le _, h6⟩ hf rfl
    · exact countStall_sound hl hf rfl

theorem pauseEnd_sound {m : Motor} (h : m.Sound) (hm : m.d.machine = .pause) : m.pauseEnd.Sound := by
  have hf := h.fault_of_driving (by rw [hm]; decide)
  unfold Motor.pauseEnd
  split
  · next hp => exact drive_homing_sound h.loose hf (h.1.2.2.2.2.2.2 (.inr ⟨hm, hp⟩))
  · exact compareFromHold_sound h.loose hf (by rw [h.2.1]; simp [Damper.drive, hm])

theorem retryEnd_sound {m : Motor} (h : m.Sound) (hm : m.d.machine = .retry) : m.retryEnd.Sound := by
  have hf := h.fault_of_driving (by rw [hm]; decide)
  have ha : m.b.asked = none := by rw [h.2.1]; simp [Damper.drive, hm]
  exact compareFromHold_sound (m := { m with t := _ }) h.loose hf ha

theorem homingFailed_sound {m : Motor} (h : m.Sound) : m.homingFailed.Sound := by
  unfold Motor.homingFailed
  dsimp only
  split
  · obtain ⟨h1, h2, h3, h4, h5, h6⟩ := stop_loose h.loose
    refine ⟨⟨h1, h2, h3, h4, h5, by simp, by simp⟩, rfl, ?_, h6⟩
    intro x hx; cases hx
  · next hd =>
    obtain ⟨h1, h2, h3, h4, h5, h6⟩ := h.loose
    refine ⟨⟨h1, h2, h3, h4, h5, by simp, by simp⟩, ?_, ?_, h6⟩
    · rw [h.2.1]
      cases hm : m.d.machine <;> simp [hm, DamperState.driving] at hd <;> simp [Damper.drive, hm]
    · intro x hx; cases hx

/-- Homing starts from a machine that is not driving and holds no fault (R126, R128). -/
theorem startHoming_sound {m : Motor} (h : m.Loose) (hf : m.d.fault = false) (ha : m.b.asked = none) :
    m.startHoming.Sound := by
  unfold Motor.startHoming
  dsimp only
  obtain ⟨h1, h2, h3, h4, h5, h6⟩ := h
  split
  · exact drive_homing_sound (m := { m with d := _, t := _ }) ⟨h1, h2, h3, h4, Nat.zero_le _, h6⟩ hf rfl
  · refine ⟨⟨h1, h2, h3, h4, Nat.zero_le _, ?_, ?_⟩, ha, ?_, h6⟩
    · simp [hf]
    · simp
    · intro x hx; cases hx

/-! ### The comparison in the words of the tables (R121, R122) -/

/-- A machine that drives toward the target drives in the direction of its last drive (R120). -/
def Motor.Follows (m : Motor) : Prop :=
  (m.d.machine = .opening → m.d.lastDrive = .opening) ∧ (m.d.machine = .closing → m.d.lastDrive = .closing)

/-- A drive toward the target, at once or over PAUSE (R122). -/
theorem startDrive_machine (dir : Direction) (m : Motor) :
    (m.startDrive dir).d.machine =
      if dir = m.d.lastDrive ∨ 200000 ≤ m.t.motorRest.us then travelState dir else .pause := by
  have hr : m.rested = decide (200000 ≤ m.t.motorRest.us) := rfl
  unfold Motor.startDrive
  rw [hr]
  by_cases h : dir = m.d.lastDrive ∨ 200000 ≤ m.t.motorRest.us <;> simp [h, Motor.drive]

/-- The direction of a target that is not at hand. -/
theorem toward_of_not_atTarget {d : Damper} (h : d.atTarget = false) :
    d.toward = if 2 < d.gap then .opening else .closing := by
  have h' : ¬ (-2 ≤ d.gap ∧ d.gap ≤ 2) := by simpa [Damper.atTarget] using h
  unfold Damper.toward
  split_ifs <;> first | rfl | omega

/-- A comparison leaves the machine in the state that the tables of R121 and R122 give. -/
theorem compare_machine {m : Motor} (h : m.Follows) :
    m.compare.d.machine =
      comparedState m.d.machine m.d.lastDrive (decide (200000 ≤ m.t.motorRest.us)) m.d.homingPause m.d.gap := by
  obtain ⟨ho, hc⟩ := h
  have hn : m.d.atTarget = decide (-2 ≤ m.d.gap ∧ m.d.gap ≤ 2) := rfl
  have hz : m.stop.t.motorRest.us = 0 := rfl
  by_cases hat : m.d.atTarget = true
  · have hat' : -2 ≤ m.d.gap ∧ m.d.gap ≤ 2 := by simpa [hn] using hat
    cases hm : m.d.machine <;>
      simp [Motor.compare, comparedState, Motor.compareFromHold, hm, hat, hat', Motor.enterHold]
    split_ifs <;> simp_all
  · have hat' : ¬ (-2 ≤ m.d.gap ∧ m.d.gap ≤ 2) := by simpa [hn] using hat
    have ht := toward_of_not_atTarget (d := m.d) (by simpa using hat)
    cases hm : m.d.machine with
    | hold =>
      simp only [Motor.compare, Motor.compareFromHold, comparedState, hm, hat, hat', if_false, Bool.false_eq_true]
      rw [startDrive_machine, ht]
      by_cases h2 : 2 < m.d.gap <;> simp [h2, travelState, eq_comm]
    | opening =>
      simp only [Motor.compare, comparedState, hm, hat, hat', if_false, Bool.false_eq_true]
      by_cases h2 : 2 < m.d.gap
      · simp [ht, h2, hm]
      · simp [ht, h2, startDrive_machine, hz, ho hm]
    | closing =>
      simp only [Motor.compare, comparedState, hm, hat, hat', if_false, Bool.false_eq_true]
      by_cases h2 : 2 < m.d.gap
      · have hg : ¬ m.d.gap < -2 := by omega
        simp [ht, h2, hg, startDrive_machine, hz, hc hm]
      · have hg : m.d.gap < -2 := by omega
        simp [ht, h2, hg, hm]
    | pause =>
      simp only [Motor.compare, comparedState, hm, hat, hat', if_false, Bool.false_eq_true, ht]
      by_cases hp : m.d.homingPause = true
      · simp [hp, hm]
      · by_cases h2 : 2 < m.d.gap <;> cases hl : m.d.lastDrive <;> simp [hp, h2, hm, Motor.drive, travelState]
    | parked => simp [Motor.compare, comparedState, hm]
    | homing => simp [Motor.compare, comparedState, hm]
    | retry => simp [Motor.compare, comparedState, hm]
    | fault => simp [Motor.compare, comparedState, hm]

/-! ### Position (R118) -/

theorem positionOf_le (m : Mode) (fcap r g qz : Nat) : positionOf m fcap r g qz ≤ 100 := by
  unfold positionOf
  split_ifs
  · omega
  · omega
  · exact (limitTo_mem (by decide) _).2

end Sys2Proof.Machine
end

