-- ==== Sys2Proof/Laws/Plant.lean ====
section
/-! SUPPORT. The compressor and defrost machines with their outputs: every move keeps the speed in its range, the
compressor channel with it, and the switched outputs apart from both. -/

namespace Sys2Proof.Machine

/-- What the outdoor logic and its channel keep, without the inputs: the ranges of S, Ct and the pending target, the
minimum off time behind STOPPED, and the channel at its stopped level while the compressor stands still (R147 to R149,
R153, R165, R166). -/
def Plant.Sound (p : Plant) : Prop :=
  (p.o.comp.isRunning = true → 30 ≤ p.o.speed ∧ p.o.speed ≤ 100) ∧
    (p.o.comp.isRunning = false → p.o.speed = 0 ∧ p.o.defrost = .normal) ∧
    (p.o.comp = .stopped → 180 ≤ p.o.offTimer) ∧
    capacitySound p.o.ct ∧ capacitySound p.o.pendingCt ∧
    (p.o.comp.isRunning = false → p.out.compressor = .atReset) ∧
    (p.out.tripHold = true → p.o.comp.isRunning = false) ∧
    p.out.compressor.Sound

@[simp] theorem requestFan_o (p : Plant) : p.requestFan.o = p.o := rfl
@[simp] theorem requestFan_compressor (p : Plant) : p.requestFan.out.compressor = p.out.compressor := rfl
@[simp] theorem requestFan_blower (p : Plant) : p.requestFan.out.blower = p.out.blower := rfl
@[simp] theorem requestFan_bypass (p : Plant) : p.requestFan.out.bypass = p.out.bypass := rfl
@[simp] theorem requestFan_bridge (p : Plant) : p.requestFan.out.bridge = p.out.bridge := rfl
@[simp] theorem requestFan_tripHold (p : Plant) : p.requestFan.out.tripHold = p.out.tripHold := rfl
@[simp] theorem requestFan_tripActive (p : Plant) : p.requestFan.out.tripActive = p.out.tripActive := rfl
@[simp] theorem followValve_o (m : Mode) (p : Plant) : (p.followValve m).o = p.o := by
  unfold Plant.followValve; split <;> rfl
@[simp] theorem followValve_compressor (m : Mode) (p : Plant) :
    (p.followValve m).out.compressor = p.out.compressor := by
  unfold Plant.followValve; split <;> rfl
@[simp] theorem followValve_blower (m : Mode) (p : Plant) : (p.followValve m).out.blower = p.out.blower := by
  unfold Plant.followValve; split <;> rfl
@[simp] theorem followValve_bypass (m : Mode) (p : Plant) : (p.followValve m).out.bypass = p.out.bypass := by
  unfold Plant.followValve; split <;> rfl
@[simp] theorem followValve_bridge (m : Mode) (p : Plant) : (p.followValve m).out.bridge = p.out.bridge := by
  unfold Plant.followValve; split <;> rfl
@[simp] theorem followValve_tripHold (m : Mode) (p : Plant) : (p.followValve m).out.tripHold = p.out.tripHold := by
  unfold Plant.followValve; split <;> rfl
@[simp] theorem followValve_tripActive (m : Mode) (p : Plant) :
    (p.followValve m).out.tripActive = p.out.tripActive := by
  unfold Plant.followValve; split <;> rfl

theorem requestFan_sound {p : Plant} (h : p.Sound) : p.requestFan.Sound := h

/-- A stop leaves a sound plant with the speed at 0 (R149, R153, R165). -/
theorem plant_stop_sound {p : Plant} (hc : capacitySound p.o.ct) (hp : capacitySound p.o.pendingCt) {after : CompState}
    (ha : after = .minOff ∨ after = .tripped) : (p.stop after).Sound := by
  rcases ha with rfl | rfl <;>
    exact ⟨fun h => (by cases h), fun _ => ⟨rfl, rfl⟩, fun h => (by cases h), hc, hp, fun _ => rfl, fun _ => rfl,
      ⟨Nat.zero_le _, Nat.zero_le _⟩⟩

theorem forcedStop_sound {p : Plant} (h : p.Sound) : p.forcedStop.Sound := by
  unfold Plant.forcedStop
  split
  · exact plant_stop_sound h.2.2.2.1 h.2.2.2.2.1 (.inl rfl)
  · exact h

/-- After a forced stop the compressor stands still (R152). -/
theorem forcedStop_notRunning (p : Plant) : p.forcedStop.o.comp.isRunning = false := by
  unfold Plant.forcedStop
  split
  · rfl
  · next h => simpa using h

theorem capacityFrom_sound (rtot fcap peak : Nat) : capacitySound (capacityFrom rtot fcap peak) := by
  unfold capacityFrom capacitySound limitTo
  dsimp only
  split <;> omega

theorem capacityTarget_sound (m : Mode) (v : View) : capacitySound (capacityTarget m v) := by
  unfold capacityTarget
  split
  · exact .inl rfl
  · exact .inl rfl
  · split
    · exact .inl rfl
    · exact .inr ⟨by decide, by decide⟩
  · split
    · exact .inl rfl
    · exact capacityFrom_sound _ _ _
  · split
    · exact .inl rfl
    · exact capacityFrom_sound _ _ _

/-- Every ramp target lies within 30..100 (R151). -/
theorem rampTarget_mem (i : PlantIn) {o : Outdoor} (h : capacitySound o.ct) :
    30 ≤ rampTarget i o ∧ rampTarget i o ≤ 100 := by
  unfold rampTarget
  split
  · omega
  · omega
  · split
    · unfold capacitySound at h
      unfold speedCap
      split_ifs <;> omega
    · omega

/-- A ramp step stays between the speed and its target (R151). -/
theorem rampStep_mem {lo hi target speed : Nat} (ht : lo ≤ target ∧ target ≤ hi) (hs : lo ≤ speed ∧ speed ≤ hi) :
    lo ≤ rampStep target speed ∧ rampStep target speed ≤ hi := by
  unfold rampStep
  split_ifs <;> omega

theorem writeCompressor_sound {o : Output} (h : o.compressor.Sound) {d : Nat} (hd : d ≤ 1000) :
    (o.writeCompressor d).compressor.Sound := by
  unfold Output.writeCompressor
  dsimp only
  split
  · exact h
  · exact ⟨h.1, hd⟩

theorem periodEnd_sound {c : Pwm} (h : c.Sound) : c.periodEnd.Sound := by
  unfold Pwm.periodEnd
  split
  · exact ⟨h.2, h.2⟩
  · exact h

/-- A running tick keeps the plant sound (R151 to R155). -/
theorem runTick_sound {p : Plant} (h : p.Sound) (i : PlantIn) (hr : p.o.comp.isRunning = true) : (p.runTick i).Sound := by
  obtain ⟨h1, -, -, h4, h5, -, h7, h8⟩ := h
  have hh : p.out.tripHold = false := by
    cases hx : p.out.tripHold with
    | false => rfl
    | true => rw [h7 hx] at hr; cases hr
  have hs := rampStep_mem (rampTarget_mem i h4) (h1 hr)
  unfold Plant.runTick
  dsimp only
  split
  · next hn =>
    refine ⟨fun _ => hs, fun hx => ?_, fun hx => ?_, h4, h5, fun hx => ?_, fun hx => ?_, ?_⟩
    · rw [requestFan_o] at hx; rw [hn] at hx; cases hx
    · rw [requestFan_o] at hx
      dsimp only at hx
      rw [hx] at hn; cases hn
    · rw [requestFan_o] at hx; rw [hn] at hx; cases hx
    · rw [requestFan_tripHold, followValve_tripHold] at hx
      have : p.out.tripHold = true := hx
      rw [hh] at this; cases this
    · rw [requestFan_compressor]
      show Pwm.Sound (Plant.followValve i.mode _).out.compressor
      rw [followValve_compressor]
      refine writeCompressor_sound h8 ?_
      have : (p.o.ramp i).speed = rampStep (rampTarget i p.o) p.o.speed := rfl
      omega
  · refine plant_stop_sound ?_ ?_ (.inl rfl) <;> rw [followValve_o]
    · exact h4
    · exact h5

/-- A defrost entered or left at a tick needs a running compressor (R156). -/
theorem tickDefrost_fields (i : PlantIn) (o : Outdoor) :
    (o.tickDefrost i).comp = o.comp ∧ (o.tickDefrost i).speed = o.speed ∧ (o.tickDefrost i).ct = o.ct ∧
      (o.tickDefrost i).pendingCt = o.pendingCt ∧ (o.tickDefrost i).offTimer = o.offTimer ∧
      (o.tickDefrost i).lockout = o.lockout ∧ (o.tickDefrost i).side = o.side ∧ (o.tickDefrost i).trips = o.trips := by
  unfold Outdoor.tickDefrost Outdoor.enterDefrost
  cases o.defrost <;> dsimp only <;> split_ifs <;> simp

theorem tickDefrost_normal (i : PlantIn) {o : Outdoor} (hn : o.defrost = .normal) (hs : o.speed = 0) :
    (o.tickDefrost i).defrost = .normal := by
  unfold Outdoor.tickDefrost
  rw [hn]
  have : defrostQualifies i o.speed (o.accumulated i.mode) = false := by
    unfold defrostQualifies
    split
    · simp [hs]
    · rfl
  simp [this]

/-- The defrost machine's tick with its fan request, whole: the outdoor logic moves as R156 and R157 say, and where the
defrost state changes the fan is requested on in a run in NORMAL, and off otherwise (R155). -/
theorem plant_tickDefrost_spec (i : PlantIn) (p : Plant) :
    (p.tickDefrost i).o = p.o.tickDefrost i ∧
      if (p.o.tickDefrost i).defrost = p.o.defrost then
        (p.tickDefrost i).out = p.out ∧ (p.tickDefrost i).t = p.t
      else
        (p.tickDefrost i).out = { p.out with fan := p.out.fan.request (p.o.tickDefrost i).fanWanted p.t.fan.us } ∧
          (p.tickDefrost i).t =
            { p.t with
              fan := intervalAfter p.out.fan (p.out.fan.request (p.o.tickDefrost i).fanWanted p.t.fan.us) p.t.fan } := by
  unfold Plant.tickDefrost
  dsimp only
  split
  · exact ⟨rfl, rfl, rfl⟩
  · exact ⟨rfl, rfl, rfl⟩

/-- The compressor machine's second tick keeps the plant sound (R150, R151, R153). -/
theorem tickCompressor_sound {p : Plant} (h : p.Sound) (i : PlantIn) : (p.tickCompressor i).Sound := by
  unfold Plant.tickCompressor
  obtain ⟨h1, h2, h3, h4, h5, h6, h7, h8⟩ := id h
  cases hc : p.o.comp with
  | stopped =>
    dsimp only
    split
    · refine runTick_sound ?_ i rfl
      refine ⟨fun _ => ⟨Nat.le_refl 30, Nat.le_add_right 30 70⟩, fun hx => (by cases hx), fun hx => (by cases hx), h4, h5,
        fun hx => (by cases hx), fun hx => (by cases hx), h8⟩
    · exact h
  | minOff =>
    have hr : p.o.comp.isRunning = false := by rw [hc]; rfl
    dsimp only
    refine ⟨fun hx => ?_, fun _ => h2 hr, fun hx => ?_, h4, h5, fun _ => h6 hr, fun _ => ?_, h8⟩
    · dsimp only at hx; split at hx <;> cases hx
    · dsimp only at hx ⊢
      split at hx
      · omega
      · cases hx
    · dsimp only; split <;> rfl
  | tripped =>
    have hr : p.o.comp.isRunning = false := by rw [hc]; rfl
    dsimp only
    refine ⟨fun hx => ?_, fun _ => h2 hr, fun hx => ?_, h4, h5, fun _ => h6 hr, h7, h8⟩
    · dsimp only at hx; rw [hc] at hx; cases hx
    · dsimp only at hx; rw [hc] at hx; cases hx
  | starting => exact runTick_sound h i (by rw [hc]; rfl)
  | running => exact runTick_sound h i (by rw [hc]; rfl)
  | stoppingMinRun => exact runTick_sound h i (by rw [hc]; rfl)

/-- A trip stops the compressor and keeps the plant sound (R159, R166). -/
theorem trip_sound {p : Plant} (h : p.Sound) : p.trip.Sound ∧ p.trip.o.comp.isRunning = false := by
  obtain ⟨-, h2, -, h4, h5, -, -, -⟩ := h
  unfold Plant.trip Plant.tripMachine
  dsimp only
  split
  · exact ⟨⟨fun hx => (by cases hx), fun _ => ⟨rfl, rfl⟩, fun hx => (by cases hx), h4, h5, fun _ => rfl, fun _ => rfl,
      ⟨Nat.zero_le _, Nat.zero_le _⟩⟩, rfl⟩
  · next hr =>
    have hr' : p.o.comp.isRunning = false := by simpa using hr
    exact ⟨⟨fun hx => (by cases hx), fun _ => h2 hr', fun hx => (by cases hx), h4, h5, fun _ => rfl, fun _ => rfl,
      ⟨Nat.zero_le _, Nat.zero_le _⟩⟩, rfl⟩

theorem untrip_sound {p : Plant} (h : p.Sound) : p.untrip.Sound := by
  obtain ⟨h1, h2, h3, h4, h5, h6, h7, h8⟩ := id h
  unfold Plant.untrip
  split
  · next hc =>
    have hr : p.o.comp.isRunning = false := by rw [hc]; rfl
    refine ⟨fun hx => ?_, fun _ => h2 hr, fun hx => ?_, h4, h5, fun _ => h6 hr, fun _ => ?_, h8⟩
    · dsimp only at hx; split at hx <;> cases hx
    · dsimp only at hx ⊢
      split at hx
      · cases hx
      · omega
    · dsimp only; split <;> rfl
  · exact h

/-! ### The handler's duties -/

theorem roundNearest_le {a b c : Nat} (hb : 0 < b) (h : a ≤ c * b) : roundNearest a b ≤ c := by
  unfold roundNearest
  have : 2 * a + b < (c + 1) * (2 * b) := by nlinarith
  have := (Nat.div_lt_iff_lt_mul (by omega : 0 < 2 * b)).2 this
  omega

theorem blowerTarget_le (m : Mode) (f : PlantFilter) (hold : Bool) (rtot : Nat) {fcap fmin : Nat} (h : fmin ≤ fcap) :
    blowerTarget m f hold rtot fcap fmin ≤ fcap := by
  unfold blowerTarget
  split_ifs
  · omega
  · exact h
  · omega
  · omega
  · exact (limitTo_mem h _).2

theorem ownFmin_le (s : State) : s.ownFmin ≤ s.ownFcap := by
  unfold State.ownFmin
  omega

theorem blowerDuty_le {fb fcap : Nat} (h : fb ≤ fcap) (hp : 0 < fcap) : blowerDuty fb fcap ≤ 1000 :=
  roundNearest_le hp (by nlinarith)

theorem bypassPosition_le (fb rtot fcap : Nat) : bypassPosition fb rtot fcap ≤ 100 := by
  unfold bypassPosition
  dsimp only
  split <;> omega

theorem handler_round_sound {h : Handler} (hs : h.Sound) (m : Mode) (f : PlantFilter) (rtot : Nat) {fcap fmin : Nat}
    (hm : fmin ≤ fcap) (hp : 0 < fcap) : (h.round m f rtot fcap fmin).Sound := by
  obtain ⟨-, h2, -, h4, h5, h6, h7, h8⟩ := hs
  refine ⟨blowerDuty_le (blowerTarget_le _ _ _ _ hm) hp, ?_, bypassPosition_le _ _ _, ?_, ?_, ?_, ?_, ?_⟩ <;>
    simp only [Handler.round, Handler.roundHold] <;> split_ifs <;> dsimp only <;> omega

theorem watchFlag_lt {flag q : Bool} {run full : Nat} (h : run < full) : (watchFlag flag run full q).2 < full := by
  unfold watchFlag
  split_ifs <;> simp <;> omega

theorem handler_tick_sound {h : Handler} (hs : h.Sound) (m : Mode) (f : PlantFilter) (ph : Nat)
    (coil supply : Option Int) : (h.tick m f ph coil supply).Sound := by
  obtain ⟨h1, h2, h3, h4, h5, h6, h7, h8⟩ := hs
  have hold : ∀ h : Handler, h.Sound → (h.tickHold coil).Sound := by
    rintro h ⟨h1, h2, h3, h4, h5, h6, h7, h8⟩
    unfold Handler.tickHold
    split_ifs
    · exact ⟨h1, h2, h3, h4, Nat.le_add_left 1 89, h6, h7, h8⟩
    · exact ⟨h1, h2, h3, h4, by dsimp only; omega, h6, h7, h8⟩
    · exact ⟨h1, h2, h3, h4, h5, h6, h7, h8⟩
  have frost : ∀ h : Handler, h.Sound → (h.tickFrost m coil).Sound := by
    rintro h ⟨h1, h2, h3, h4, h5, h6, h7, h8⟩
    exact ⟨h1, h2, h3, h4, h5, watchFlag_lt h6, h7, h8⟩
  have hot : ∀ h : Handler, h.Sound → (h.tickHot supply).Sound := by
    rintro h ⟨h1, h2, h3, h4, h5, h6, h7, h8⟩
    exact ⟨h1, h2, h3, h4, h5, h6, watchFlag_lt h7, h8⟩
  have aux : ∀ h : Handler, h.Sound → (h.tickAux m f ph).Sound := by
    rintro h ⟨h1, h2, h3, h4, h5, h6, h7, h8⟩
    unfold Handler.tickAux
    split_ifs <;> exact ⟨h1, h2, h3, h4, h5, h6, h7, by first | omega | (dsimp only; omega)⟩
  exact aux _ (hot _ (frost _ (hold _ ⟨h1, h2, h3, h4, h5, h6, h7, h8⟩)))

/-! ### The transmit queue -/

/-- Only the head entry can have won three times after the decision's count (R174). -/
theorem dropWon_spec {q : List QueueEntry} (hl : q.length ≤ 4) (hq : ∀ e ∈ q.tail, e.wins < 3) :
    (dropWon q).length ≤ 4 ∧ ∀ e ∈ dropWon q, e.wins < 3 := by
  cases q with
  | nil => exact ⟨Nat.zero_le _, fun e he => (by cases he)⟩
  | cons e rest =>
    rw [List.length_cons] at hl
    simp only [dropWon]
    split
    · exact ⟨by omega, hq⟩
    · next hw =>
      refine ⟨hl, fun x hx => ?_⟩
      rcases List.mem_cons.1 hx with rfl | hx
      · omega
      · exact hq x hx

/-- What an update of the queue leaves: entries short of their third win and of their sixteenth round (R174). -/
theorem updateQueue_spec (acc : Bool) (out : Option Arbitration) {q : List QueueEntry} (hl : q.length ≤ 4)
    (hq : ∀ e ∈ q, e.wins < 3 ∧ e.age < 16) :
    (updateQueue acc out q).length ≤ 4 ∧ ∀ e ∈ updateQueue acc out q, e.wins < 3 ∧ e.age < 16 := by
  have key : ((countWin acc out q).map QueueEntry.older).length ≤ 4 ∧
      ∀ e ∈ ((countWin acc out q).map QueueEntry.older).tail, e.wins < 3 := by
    cases q with
    | nil => exact ⟨Nat.zero_le _, fun e he => (by cases he)⟩
    | cons e rest =>
      refine ⟨by simpa [countWin] using hl, fun x hx => ?_⟩
      have hx' : x ∈ rest.map QueueEntry.older := hx
      obtain ⟨y, hy, rfl⟩ := List.mem_map.1 hx'
      exact (hq y (List.mem_cons_of_mem _ hy)).1
  obtain ⟨h1, h2⟩ := dropWon_spec key.1 key.2
  refine ⟨le_trans (List.length_filter_le _ _) h1, fun x hx => ?_⟩
  obtain ⟨hx, ha⟩ := List.mem_filter.1 hx
  exact ⟨h2 x hx, of_decide_eq_true ha⟩

/-- An offer keeps the queue within 4 entries (R173). -/
theorem offer_length (room : Bool) (entries : List QueueEntry) {q : List QueueEntry} (h : q.length ≤ 4) :
    (offer room entries q).length ≤ 4 := by
  unfold offer
  split
  · next hc => simpa using hc.2
  · exact h

/-! ### The safe states of an entry to ISOLATED (R55) -/

/-- A second request for the level off, under the interval timer that the first one left, changes nothing (R169). -/
theorem request_off_twice (w : Switched) (t : Timer) :
    (w.request false t.us).request false (intervalAfter w (w.request false t.us) t).us = w.request false t.us := by
  rcases w with ⟨_ | _, held⟩
  · simp [Switched.request]
  · by_cases h : t.us < Config.intervalUs <;> simp [Switched.request, intervalAfter, h]

/-- The interval timer after a second request that changes nothing is the one that the first request left (R169). -/
theorem intervalAfter_self (w : Switched) (t : Timer) : intervalAfter w w t = t := by simp [intervalAfter]

/-- The interval timer after a step, with the applied levels compared the other way round (R169). -/
theorem intervalAfter_comm (w x : Switched) (t : Timer) :
    intervalAfter w x t = if x.on = w.on then t else ⟨true, 0⟩ := by
  simp only [intervalAfter, eq_comm (a := w.on), Timer.started]

/-- What the handler's part of an entry to ISOLATED does, whole (R145). -/
theorem handlerSafe_atRest (s : State) : HandlerAtRest s (handlerSafe s) :=
  ⟨rfl, rfl, intervalAfter_comm _ _ _⟩

/-- What the outdoor station's part of an entry to ISOLATED does, whole (R162). -/
theorem outdoorSafe_atRest (s : State) : OutdoorAtRest s (outdoorSafe s) := by
  by_cases h : s.outdoor.comp.isRunning = true
  · have e := request_off_twice s.out.fan s.timers.fan
    have hs :
        outdoorSafe s =
          s.withPlant
            (({ s.plant with o := { s.outdoor with pendingCt := 0, ct := 0 } } : Plant).stop .minOff).requestFan := by
      show s.withPlant _ = _
      simp only [Plant.forcedStop]
      rw [if_pos h]
      rfl
    rw [hs]
    refine ⟨?_, ?_⟩
    · rw [if_pos h]
      exact ⟨rfl, congrArg (fun x => { s.out with compressor := ⟨0, 0, false⟩, fan := x }) e⟩
    · refine Eq.trans ?_ (intervalAfter_comm s.out.fan _ s.timers.fan)
      show intervalAfter _ (Switched.request false _ _) _ = intervalAfter _ (Switched.request false _ _) _
      exact (congrArg (fun x => intervalAfter _ x _) e).trans
        ((intervalAfter_self _ _).trans (congrArg (fun x => intervalAfter _ x _) e.symm))
  · have hf : s.outdoor.comp.isRunning = false := by simpa using h
    have hs :
        outdoorSafe s =
          s.withPlant
            ({ s.plant with
              o := { s.outdoor with pendingCt := 0, ct := 0, defrost := .normal, phase := 0 } } : Plant).requestFan := by
      show s.withPlant _ = _
      simp only [Plant.forcedStop]
      rw [if_neg h]
    have hw : ({ s.outdoor with pendingCt := 0, ct := 0, defrost := .normal, phase := 0 } : Outdoor).fanWanted = false := by
      simp [Outdoor.fanWanted, hf]
    rw [hs]
    simp only [Plant.requestFan, requestFan, hw]
    refine ⟨?_, intervalAfter_comm _ _ _⟩
    rw [if_neg h]
    exact ⟨rfl, rfl⟩

end Sys2Proof.Machine
end

