-- ==== Sys2Proof/Laws/Round.lean ====
section
/-! SUPPORT. Rounds as the line brings them: how many bits a time has brought, a bit in the clash detector, and the station
that hands an accepted round on. -/

namespace Sys2Proof.Machine

/-- Bit `k` of a round has been sampled when its middle has passed (R3). -/
theorem lt_samplesBy_iff (k us : Nat) : k < samplesBy us ↔ k < 482 ∧ 2500 * (2 * k + 1) ≤ 6 * us := by
  unfold samplesBy; omega

/-- Bit `k` of a round has ended when its last instant has passed (R3). -/
theorem lt_bitsEndedBy_iff (k us : Nat) : k < bitsEndedBy us ↔ k < 482 ∧ 2500 * (k + 1) ≤ 3 * us := by
  unfold bitsEndedBy; omega

/-- A bit that has ended has been sampled (R3). -/
theorem bitsEndedBy_le_samplesBy (us : Nat) : bitsEndedBy us ≤ samplesBy us := by
  unfold bitsEndedBy samplesBy; omega

/-- No more data bits than the 384 of a round (R8). -/
theorem dataBitsIn_samplesBy_le (us : Nat) : dataBitsIn (samplesBy us) ≤ 384 := by
  unfold dataBitsIn samplesBy; omega

/-- More bits hold no fewer data bits (R8). -/
theorem dataBitsIn_mono {m n : Nat} (h : m ≤ n) : dataBitsIn m ≤ dataBitsIn n := by unfold dataBitsIn; omega

/-- What a cut tells of the arbitrated fields: a field whose last data bit is `n` has finished exactly when that bit has
ended (R10, R20). -/
theorem fields_ended_iff (us : Nat) :
    (4 ≤ dataBitsIn (bitsEndedBy us) ↔ 2500 * 6 ≤ 3 * us) ∧ (76 ≤ dataBitsIn (bitsEndedBy us) ↔ 2500 * 96 ≤ 3 * us) ∧
      (84 ≤ dataBitsIn (bitsEndedBy us) ↔ 2500 * 106 ≤ 3 * us) ∧
      (104 ≤ dataBitsIn (bitsEndedBy us) ↔ 2500 * 131 ≤ 3 * us) ∧
      (352 ≤ dataBitsIn (bitsEndedBy us) ↔ 2500 * 441 ≤ 3 * us) := by
  unfold dataBitsIn bitsEndedBy; omega

/-- The clash detector by its three places (R19, R47). -/
theorem clashIn_iff (a : Nibble) (im : Image) (driven wire : View) :
    clashIn a im driven wire = true ↔
      slotByte wire.share a.toNat &&& ~~~slotByte driven.share a.toNat ≠ 0 ∨
        slotByte wire.slow a.toNat &&& ~~~slotByte driven.slow a.toNat ≠ 0 ∨
        (im.reply ≠ none ∧ wire.reply &&& ~~~driven.reply ≠ 0) := by
  unfold clashIn overdriven
  cases im.reply <;> simp [or_assoc]

/-- The station at ROUND_END of the window `w`, its line read, before the decision (R8). -/
def State.windowRead (w : Window) (s : State) : State :=
  let s1 := elapseTo s.timers.round (Config.bitsUs Config.roundBits) s
  { s1 with
    line := { s1.line.read s.rst.address s.asm.image 384 384 w.data with rx := .idle, framing := false }
    health := s1.health.read s.rst.address s.asm.image 384 w.data }

/-- An accepted round that is handed on: the directive unit works on the station that has adopted it, then the role's
block (R39, R48, R49). -/
theorem execRoundEnd_handedOn {w : Window} {s : State} (ha : EndsAccepted w s)
    (hl : s.mayDrive = true ∨ s.health.link = .listen ∧ 7 ≤ s.health.joining)
    (hc : clashes .accepted (decideRound .accepted (viewOf w.data) (s.windowRead w)) = false) :
    exec (.roundEnd w) s = .next (roleRound s.zone.settings (directiveRound (adopted w s))) := by
  obtain ⟨hr, hf, hg, hp, hk⟩ := ha
  have he : (elapseTo s.timers.round (Config.bitsUs Config.roundBits) s).line.framing = false := hf
  have hw : framingIn w = false := by simp [framingIn, hg, hp]
  have hv : verdictOf false w.data = .accepted := by simp [verdictOf, hk]
  have hx : exec (.roundEnd w) s = .next (takeDecision .accepted (viewOf w.data) (s.windowRead w)) := by
    simp only [exec, execRoundEnd, hr, if_true, windowEnd, he, hw, Bool.or_false, hv]
    rfl
  rw [hx]
  have hlink : (s.windowRead w).health.link = s.health.link := rfl
  have hj : (s.windowRead w).health.joining = s.health.joining := rfl
  have hz : ∀ v x, (decideRound v x (s.windowRead w)).zone.settings = s.zone.settings := fun _ _ => rfl
  unfold takeDecision
  unfold State.mayDrive at hl
  cases h : s.health.link with
  | quiet => simp [h] at hl
  | isolated => simp [h] at hl
  | listen =>
    have h7 : 7 ≤ s.health.joining := by simpa [h] using hl
    have h8 : 8 ≤ s.health.joining + 1 := by omega
    simp only [State.decides, hlink, h, hc, linkMove, decideRound_link, listenMove, Verdict.isAccepted,
      decideRound_joining, hj, h8, handOn, adopted, if_true, Bool.false_eq_true, if_false]
    rfl
  | joined =>
    simp only [State.decides, hlink, h, hc, linkMove, decideRound_link, joinedMove, Verdict.isAccepted, handOn, adopted,
      if_true, Bool.false_eq_true, if_false, reduceCtorEq]
    rfl
  | holdover =>
    simp only [State.decides, hlink, h, hc, linkMove, decideRound_link, holdoverMove, Verdict.isAccepted, handOn, adopted,
      if_true, Bool.false_eq_true, if_false, reduceCtorEq]
    rfl

/-- The execution of a directive by its own row and by the third reception are one: the row of `d` at a JOINED station that
`d` is addressed to is its execution and the reply owed (R177, R178). -/
theorem runDirective_heard {c : Code} {source dest : Nibble} {arg : Byte} {s : State} (h : Heard source dest s) :
    runDirective c source dest arg s =
      oweReply ⟨source, dest, c.number, arg⟩ (execute ⟨source, dest, c.number, arg⟩ s) := by
  obtain ⟨hl, hs, hd⟩ := h
  unfold runDirective
  rw [if_pos ⟨hl, hs, by simpa [Directive.addressedTo] using hd⟩]

end Sys2Proof.Machine
end

