-- ==== Sys2Proof/Laws/Zone.lean ====
section
/-! SUPPORT. The demand, the call machine and the measurement rings: every shared operation keeps its ranges. -/

namespace Sys2Proof.Machine

/-! ### Demand -/

theorem errorDemand_mem (e : Int) (a : Nat) : 1 ≤ errorDemand e a ∧ errorDemand e a ≤ 63 := by
  unfold errorDemand limitInt; omega

theorem dryDemand_mem (rh hl : Int) : 4 ≤ dryDemand rh hl ∧ dryDemand rh hl ≤ 32 := by
  unfold dryDemand limitInt; omega

theorem integrate_le (a : Nat) (e : Int) : integrate a e ≤ 1008 := by
  unfold integrate limitInt; omega

theorem moveTo_sound {z : Zone} (h : z.Sound) (c : Call) (tm rh : Option Int) : (z.moveTo c tm rh).Sound := by
  obtain ⟨ha, -, -⟩ := h
  cases c <;>
    simp only [Zone.Sound, Zone.moveTo, demandSound] <;>
    refine ⟨by omega, ?_, by simp⟩
  · trivial
  · exact errorDemand_mem _ _
  · exact errorDemand_mem _ _
  · exact dryDemand_mem _ _

theorem zone_tick_sound {z : Zone} (h : z.Sound) (blocked : Bool) (tm rh : Option Int) : (z.tick blocked tm rh).Sound := by
  unfold Zone.tick
  split
  · exact h
  · exact moveTo_sound h _ _ _

theorem accumulated_le {x : Zone} (h : x.a ≤ 1008) (served : Bool) (z : Settings) (tm : Option Int) :
    x.accumulated served z tm ≤ 1008 := by
  unfold Zone.accumulated
  split
  · split_ifs
    · exact integrate_le _ _
    · exact h
  · split_ifs
    · exact integrate_le _ _
    · exact h
  · exact h

theorem demanded_sound {x : Zone} (h : demandSound x.call x.d) (a : Nat) (z : Settings) (tm rh : Option Int) :
    demandSound x.call (x.demanded a z tm rh) := by
  unfold Zone.demanded
  cases hc : x.call <;> rw [hc] at h
  · rfl
  · cases tm with
    | none => exact h
    | some t => exact errorDemand_mem _ _
  · cases tm with
    | none => exact h
    | some t => exact errorDemand_mem _ _
  · cases rh with
    | none => exact h
    | some t => exact dryDemand_mem _ _

theorem zone_round_sound {x : Zone} (h : x.Sound) (z : Settings) (m : Mode) (v : View) (f : PlantFilter)
    (tm rh : Option Int) : (x.round z m v f tm rh).Sound := by
  refine ⟨accumulated_le h.1 _ _ _, demanded_sound h.2.1 _ _ _ _, ?_⟩
  intro hc
  have hc' : x.call = .none := hc
  simp only [Zone.round, servedAt, hc']
  cases m <;> rfl

theorem reset_zone_sound (z : Settings) : ({ Zone.atReset with settings := z } : Zone).Sound :=
  ⟨Nat.zero_le _, rfl, fun _ => rfl⟩

/-! ### Measurement -/

theorem tempSample_le {p h v : Nat} (e : tempSample p h = some v) : v ≤ 1500 := by
  unfold tempSample at e
  dsimp only at e
  split at e
  · split at e
    · next hv => cases e; exact hv.2
    · cases e
  · cases e

theorem humSample_le {p h v : Nat} (e : humSample p h = some v) : v ≤ 1500 := by
  unfold humSample at e
  split at e
  · cases e; omega
  · cases e

theorem consume_sound {c : CaptureChannel} (h : c.Sound) {conv : Nat → Nat → Option Nat}
    (hc : ∀ p h v, conv p h = some v → v ≤ 1500) : (c.consume conv).Sound := by
  obtain ⟨hr, hm, he, hv⟩ := h
  unfold CaptureChannel.consume
  cases ht : c.taken conv with
  | some v =>
    have hv' : v ≤ 1500 := by
      unfold CaptureChannel.taken at ht
      split at ht
      · exact hc _ _ _ ht
      · cases ht
    refine ⟨?_, by simp [CaptureChannel.good], by simp [CaptureChannel.good], ?_⟩
    · simp only [CaptureChannel.good, pushRing]
      split_ifs
      · simp; omega
      · simp; omega
    · intro w hw
      simp only [CaptureChannel.good, pushRing, List.mem_append, List.mem_singleton] at hw
      rcases hw with hw | hw
      · split at hw
        · exact hv w (List.mem_of_mem_tail hw)
        · exact hv w hw
      · rw [hw]; exact hv'
  | none =>
    simp only [CaptureChannel.Sound, CaptureChannel.miss]
    refine ⟨?_, by omega, ?_, ?_⟩
    · split_ifs
      · simp
      · exact hr
    · intro h3; rw [if_pos (by omega)]
    · intro w hw
      split at hw
      · cases hw
      · exact hv w hw

theorem sampleB_le (r : Role) (p h v : Nat) (e : sampleB r p h = some v) : v ≤ 1500 := by
  cases r
  · exact tempSample_le e
  · exact tempSample_le e
  · exact humSample_le e
  · exact tempSample_le e

theorem rise_sound {x : Capture} (h : x.c.Sound) : x.rise.c.Sound := by
  unfold Capture.rise Capture.begin Capture.latch
  (repeat' split) <;> exact h

theorem fall_sound {x : Capture} (h : x.c.Sound) : x.fall.c.Sound := by
  unfold Capture.fall Capture.await
  (repeat' split) <;> exact h

end Sys2Proof.Machine
end

