-- ==== Sys2Proof/Tests/Slice0.lean ====
section
/-! SUPPORT. Tests: ill-formed terms that WellFormed refuses, figures of the manual's worked examples, small steps, and for
each obligation with hypotheses a concrete state and operands that meet them. -/

namespace Sys2Proof.Tests

open Sys2Proof.Machine

/-! ### Helpers -/

/-- The state a command leads to. -/
def after (o : Host.Outcome State Fault Refusal) : State :=
  match o with
  | .next t => t
  | .fault _ => State.reset
  | .refused _ => State.reset

/-- A station with its straps checked, in the link state `l`, its clocks running. -/
def station (address parameter : Nibble) (l : LinkState) : State :=
  { State.reset with
    rst :=
      { state := .checked, kind := .supply, powerOn := false, monitor := false, pin := false, chord := false
        lowCount := 0, address := address, parameter := parameter }
    health := { Health.atReset with link := l }
    timers :=
      { Timers.atReset with
        round := .started, second := .started, keyClock := .started, tripClock := .started, bridge := .started
        blink := .started, pwmBlower := .started, pwmBypass := .started, pwmCompressor := .started } }

/-- Zone 3 with parameter 6 (Qz 96), JOINED. -/
def zone : State := station 3 6 .joined

/-- The handler with parameter 2 (Fcap 192), JOINED. -/
def handler : State := station 2 2 .joined

/-- The outdoor station, JOINED. -/
def outdoor : State := station 1 0 .joined

/-- The zone with its receive state set. -/
def zoneIn (rx : RxState) : State := { zone with line := { zone.line with rx := rx } }

/-- A window whose fields are all 0 and whose check agrees. -/
def quietWindow : Window := ⟨0, bitsOf { View.zero with check := 3304#12 }, 0⟩

/-- Index 5, stations 1, 2, 3 and 8 present, STATE (COOL, 300), and a SET_COOL of code 89 from the service tool to station
3. -/
def coolView : View :=
  { View.zero with
    idx := 5, pres := 0x10E, state := packState ⟨.cool, 300⟩, directive := packDirective ⟨0, 3, 0x01, 89⟩
    check := 2084#12 }

/-- The window that carries `coolView`. -/
def coolWindow : Window := ⟨0, bitsOf coolView, 0⟩

/-- A window in which a byte 1 stands in the SHARE slot of station 3. -/
def clashWindow : Window := ⟨0, bitsOf { View.zero with share := placeSlot 3 1, check := 3538#12 }, 0⟩

/-- 07, worked example: stations 1 to 4 present, (COOL, 0), a ceiling of 160 and requests of 96 and 102. -/
def shareWindow : Window :=
  ⟨0,
    bitsOf
      { View.zero with
        pres := 0x1E, state := packState ⟨.cool, 0⟩, plant := 33
        share := placeSlot 2 20 ||| placeSlot 3 96 ||| placeSlot 4 102, check := 3485#12 }, 0⟩

/-- A window with a READ of item 8 from the service tool to station 3. -/
def readWindow : Window :=
  ⟨0, bitsOf { View.zero with directive := packDirective ⟨0, 3, 0x10, 8⟩, check := 984#12 }, 0⟩

/-- A window with a directive to station 3 whose code is not in the table. -/
def strangeWindow : Window :=
  ⟨0, bitsOf { View.zero with directive := packDirective ⟨0, 3, 0x55, 9⟩, check := 2357#12 }, 0⟩

/-- A window whose STATE carries the mode code 7 and a hold of 5. -/
def lostModeWindow : Window := ⟨0, bitsOf { View.zero with state := 0xE05#12, check := 3334#12 }, 0⟩

/-- An image that takes part in every arbitrated field. -/
def image : Image :=
  { zone.roundImage with peakc := some 5, peakh := some 5, directive := some 5 }

/-- A station in the window of a round it does not drive, with `joining` rounds accepted in LISTEN. -/
def reading (address parameter : Nibble) (l : LinkState) (joining : Nat) : State :=
  { station address parameter l with
    line := { (station address parameter l).line with rx := .window }
    health := { Health.atReset with link := l, joining := joining } }

/-- The zone in the window of a round it drives. -/
def driving : State :=
  { zone with
    line := { zone.line with rx := .window, permission := true, dominant := true }
    asm := ⟨4, some image⟩ }

/-! ### WellFormed refuses ill-formed commands -/

theorem test_wellFormed_noise : (Instr.noiseRunEnd 12).wellFormed = false ∧ (Instr.noiseRunEnd 11).wellFormed = true := by
  decide

theorem test_wellFormed_directive :
    (Instr.setHeat 0 0 5).wellFormed = false ∧ (Instr.syncRecognised quietWindow.data ⟨0, 0⟩).wellFormed = true := by decide

theorem test_wellFormed_source :
    (Instr.setCool 15 3 0).wellFormed = false ∧ (Instr.read 0 0 8).wellFormed = false ∧
      (Instr.normal 0 15 0).wellFormed = true := by decide

theorem test_wellFormed_keys :
    (Instr.keyPress .mode ⟨false, false, true, false⟩).wellFormed = false ∧
      (Instr.keyPress .up ⟨false, true, false, false⟩).wellFormed = false ∧
      (Instr.keyRelease .up ⟨true, false, false, false⟩).wellFormed = false ∧
      (Instr.modeShortPress ⟨false, false, true, false⟩).wellFormed = false ∧
      (Instr.modePressRecognition ⟨true, true, false, false⟩).wellFormed = false := by decide

/-! ### Figures of the manual -/

/-- R8: data bit 4 stands at position 5 and data bit 383 at position 478. -/
theorem test_positions : dataPosition 4 = 5 ∧ dataPosition 383 = 478 ∧ spacerPosition 95 = 479 := by decide

/-- 00_scope: 96.5 rounds to 97. -/
theorem test_rounding : roundNearest 193 2 = 97 ∧ roundNearest 10209 100 = 102 := by decide

/-- R3: a bit time is 833.3 µs: the first guard bit is sampled at its middle, and the sixth bit ends at 5000 µs. -/
theorem test_bit_times : samplesBy 416 = 0 ∧ samplesBy 417 = 1 ∧ bitsEndedBy 4999 = 5 ∧ bitsEndedBy 5000 = 6 := by decide

/-- R11: the table of Pa. -/
theorem test_periods :
    Config.paUs 1 = 1008000 ∧ Config.paUs 2 = 1016000 ∧ Config.paUs 3 = 1024000 ∧ Config.paUs 8 = 1064000 ∧
      Config.paUs 14 = 1112000 := by decide

/-- R30, R31, R65: 244 deci-degrees is code 89, which decodes to 245; 612 is code 122, which decodes to 610. -/
theorem test_codes :
    tempCode 244 = 89 ∧ tempOfCode 89 = 245 ∧ humCode 612 = 122 ∧ humOfCode 122 = 610 ∧ humCode 550 = 110 := by decide

/-- 03, worked example: the register after a first nibble of 0, 1, 1, 1. -/
theorem test_check_nibble : checkOf [false, true, true, true] = 0b100111111011#12 := by decide

/-- 01, worked example: 39, 41 and 12 in PEAKC give 41, which station 7 won. -/
theorem test_arbitration :
    arbitrated (39 : Byte) 41 ||| arbitrated (41 : Byte) 41 ||| arbitrated (12 : Byte) 41 = 41 ∧
      arbitrationOf (41 : Byte) 41 = .won ∧ arbitrationOf (39 : Byte) 41 = .lost ∧
      arbitrationOf (12 : Byte) 41 = .lost := by decide

/-- 02, worked example: (COOL, 0) is 1536, and PRES 62 names stations 1 to 5. -/
theorem test_state_and_pres :
    packState ⟨.cool, 0⟩ = 1536 ∧ unpackState 1536 = some ⟨.cool, 0⟩ ∧ unpackState 4095 = none ∧
      countBits 62 = 5 ∧ countBits 24 = 2 := by decide

/-- R65, R66: the rows of the table, and a humidity of 61.2 %. -/
theorem test_samples :
    tempSample 1000 372 = some 744 ∧ tempSample 2500 481 = some 385 ∧ tempSample 3000 1117 = some 745 ∧
      tempSample 1200 35 = none ∧ tempSample 800 621 = none ∧ humSample 1000 612 = some 612 ∧
      humSample 4000 3999 = some 1000 ∧ humSample 499 100 = none := by decide

/-- 05, worked example: rounds b, d, g and h of a cooling call. -/
theorem test_cooling_call :
    errorDemand 7 (integrate 0 7) = 24 ∧ integrate 14 8 = 22 ∧ errorDemand 8 22 = 27 ∧ integrate 22 13 = 35 ∧
      errorDemand 13 35 = 38 ∧ errorDemand 13 48 = 39 ∧ dryDemand 612 550 = 12 ∧ dryDemand 900 400 = 32 := by decide

/-- 05, worked example: the gap rule at 215 in COOL_ONLY, and both ends in AUTO. -/
theorem test_gap_rule :
    (Settings.pressDown ⟨220, 200, 550, .coolOnly⟩) = ⟨215, 195, 550, .coolOnly⟩ ∧
      (Settings.pressUp ⟨215, 195, 550, .heatOnly⟩) = ⟨220, 200, 550, .heatOnly⟩ ∧
      (Settings.pressUp ⟨315, 280, 550, .auto⟩) = ⟨320, 280, 550, .auto⟩ := by decide

/-- 07, worked example: requests 96 and 102, grants 77 and 82, positions 81 % and 52 %. -/
theorem test_apportionment :
    requestOf .cool .cool 63 96 = 96 ∧ requestOf .cool .cool 40 160 = 102 ∧ requestOf .cool .cool 20 64 = 20 ∧
      grantOf 96 198 160 = 77 ∧ grantOf 102 198 160 = 82 ∧ positionOf .cool 160 96 77 96 = 81 ∧
      positionOf .cool 160 102 82 160 = 52 ∧ positionOf .cool 160 0 0 64 = 0 := by decide

/-- 09, worked example: Rtot 198 of Fcap 256 is a target of 78; the ramp goes 30, 34 and, capped, 78, 70. -/
theorem test_capacity :
    capacityFrom 198 256 41 = 78 ∧ rampStep 78 30 = 34 ∧ rampStep 78 74 = 78 ∧ rampStep 30 78 = 70 ∧
      rampStep 30 38 = 30 := by decide

/-- R159: trips at 0, 1500 and 3400 s leave ages 3400, 1900 and 0. -/
theorem test_trips : addTrip [3400, 1900] = [3400, 1900, 0] ∧ ageTrips [3599, 2099] = [2100] := by decide

/-- 02: a service tool asks station 5 for its near-end count. -/
theorem test_directive : packDirective ⟨0, 5, 0x10, 8⟩ = 0xF51008#24 ∧ packReply 5 ⟨1, 8⟩ = 0x5108#16 := by decide

/-! ### Commands -/

/-- R184 to R186: a supply of 3.0 V releases a power-on, and 250 ms later a zone starts in LISTEN and homes. -/
theorem test_start_up :
    let s1 := after (exec (.supplySample 3000) State.reset)
    let s2 := after (exec (.settleTimer 3 6) s1)
    s1.rst.state = .settling ∧ s2.rst.state = .checked ∧ s2.health.link = .listen ∧ s2.role = .zone ∧
      s2.damper.machine = .homing ∧ s2.meas.a.state = .waitEdge := by decide

/-- R186: address 15 is a configuration fault; a zone with parameter 0 too. -/
theorem test_bad_straps :
    let s1 := after (exec .supplyMonitorRelease State.reset)
    (after (exec (.settleTimer 15 6) s1)).faultIndicator = .on ∧ (after (exec (.settleTimer 3 0) s1)).health.link = .quiet := by
  decide

/-- R14, R50, R12: a silent line makes a listener the lone pacer, which drives its mark. -/
theorem test_lone_pacer :
    let s := after (exec .silenceEvent (station 1 0 .listen))
    s.health.link = .joined ∧ s.asm.index = 15 ∧ s.drivingMark = true ∧ s.timers.round.us = 1008000 := by decide

/-- R6: the trailing edge of a sync takes permission and image. -/
theorem test_round_start :
    let s := after (exec .roundStart (zoneIn .syncSeen))
    s.line.rx = .guard ∧ s.line.permission = true ∧ (s.asm.image.map fun i => i.idx) = some 0 := by decide

/-- R13, R42: a missing round. -/
theorem test_missing_round :
    (after (exec .missingRound zone)).health.nearEnd = 1 ∧ (after (exec .missingRound zone)).health.badRun = 1 := by decide

set_option maxRecDepth 20000 in
/-- R36, R38, R105: a round whose check agrees is accepted, and its STATE adopted. -/
theorem test_accepted_round :
    let s := after (exec (.roundEnd coolWindow) (zoneIn .window))
    s.health.lastAccepted = true ∧ s.coll.state = ⟨.cool, 300⟩ ∧ s.dir.tracker.count = 1 ∧
      s.dir.reply = some ⟨1, 89⟩ := by decide

set_option maxRecDepth 20000 in
/-- R41, R42: a check that disagrees is a MISMATCH, and the view stays. -/
theorem test_mismatch :
    let s := after (exec (.roundEnd ⟨0, 0, 0⟩) (zoneIn .window))
    s.health.disagree = true ∧ s.health.lastAccepted = false ∧ s.health.badRun = 1 := by decide

/-- R76: SET_COOL with code 200 sets Sc to 320, SET_HEAT with code 0 sets Sh to 100. -/
theorem test_set_points :
    (after (exec (.setCool 0 3 200) zone)).zone.settings.sc = 320 ∧
      (after (exec (.setHeat 0 3 0) zone)).zone.settings.sh = 100 ∧
      (after (exec (.setCool 0 3 200) zone)).dir.reply = some ⟨2, 104⟩ := by decide

/-- R34, R180: a zone just started answers 90 for item 10 while it homes. -/
theorem test_read_item :
    (after (exec (.read 0 3 10) zone)).dir.reply = some ⟨2, 90⟩ ∧ (after (exec (.read 0 15 10) zone)).dir.reply = none := by
  decide

/-- R144, R161: limits of the role tests. -/
theorem test_role_tests :
    (after (exec (.testBlower 0 2 40) handler)).dir.tests.role = some 75 ∧
      (after (exec (.testSpeed 0 1 255) outdoor)).dir.tests.role = some 100 ∧
      (after (exec (.testDamper 0 3 255) zone)).dir.tests.role = some 100 ∧
      (after (exec (.testSpeed 0 3 50) zone)).dir.reply = some ⟨3, 50⟩ := by decide

/-- R120, R123, R126: the stall that ends homing zeroes the count and turns to open. -/
theorem test_homing :
    let s := { zone with damper := { zone.damper with machine := .homing, position := 7 } }
    let t := after (exec .stall s)
    t.damper.position = 0 ∧ t.damper.homed = true ∧ t.damper.machine = .pause ∧
      (after (exec .pauseEnd t)).damper.machine = .opening ∧ (after (exec .damperPulse s)).damper.position = 6 := by decide

/-- R166, R167: the eighth active sample stops the compressor channel. -/
theorem test_trip :
    let s :=
      { outdoor with
        out := { outdoor.out with tripRun := 7, compressor := ⟨780, 780, false⟩ }
        outdoor := { outdoor.outdoor with comp := .running, speed := 78, trips := [3400, 1900] } }
    let t := after (exec (.tripInputSample true) s)
    t.out.compressor = ⟨0, 0, false⟩ ∧ t.out.tripHold = true ∧ t.outdoor.comp = .tripped ∧ t.outdoor.lockout = true ∧
      t.hpTrip = true ∧ (after (exec (.tripInputSample false) s)).out.tripRun = 0 := by decide

/-- R81: a long press of a zone at 320 and 280 queues codes 104 and 96. -/
theorem test_long_press :
    let s :=
      { zone with
        zone := { zone.zone with settings := ⟨320, 280, 550, .auto⟩ }
        timers := { zone.timers with modeHold := .started } }
    (after (exec .modeLongPress s)).dir.queue = [⟨1, 104, 0, 0⟩, ⟨2, 96, 0, 0⟩] := by decide

/-- 09, worked example: the start of a cooling run leaves S at 34. -/
theorem test_compressor_start :
    let f := { PlantFilter.cleared with fanRun := ⟨true, 0⟩ }
    let s :=
      { outdoor with
        health := { outdoor.health with plant := f }
        coll := ⟨⟨.cool, 0⟩, ⟨.cool, 0⟩⟩
        outdoor := { outdoor.outdoor with comp := .stopped, offTimer := 180, ct := 78 } }
    let t := after (exec .secondTick s)
    t.outdoor.comp = .starting ∧ t.outdoor.speed = 34 ∧ t.out.valve.on = true ∧ t.out.fan.on = true ∧
      t.out.compressor = ⟨0, 340, true⟩ := by decide

/-- R80: a Mode press released before 3.0 s steps AUTO to COOL_ONLY. -/
theorem test_mode_key :
    let s :=
      { zone with
        zone := { zone.zone with mode := ⟨.pressed, [false, true]⟩ }
        timers := { zone.timers with modeHold := ⟨true, 400000⟩ } }
    (after (exec (.modeShortPress ⟨false, false, false, false⟩) s)).zone.settings.setting = .coolOnly := by decide

/-- R80, R82: a Mode press of 3.008 s and a chord of 2.000 s are not stopped by the release that comes then. -/
theorem test_due_timers :
    let k : KeyBlock := ⟨.pressed, [false, true]⟩
    let s :=
      { zone with
        zone := { zone.zone with up := k, down := k, mode := k }
        timers := { zone.timers with modeHold := ⟨true, 2992000⟩, chord := ⟨true, 1984000⟩ } }
    let t := after (exec (.keySample ⟨false, false, false, false⟩) s)
    t.zone.settings.setting = .auto ∧ t.timers.modeHold = ⟨true, 3008000⟩ ∧ t.timers.chord = ⟨true, 2000000⟩ := by decide

set_option maxRecDepth 20000 in
/-- 07, worked example: zone 3 with a request of 96 of 198, a ceiling of 160 and Qz 96 is granted 77 and opens to 81 %. -/
theorem test_zone_round :
    let s :=
      { reading 3 6 .joined 0 with
        zone := { zone.zone with call := .cool, d := 63 }
        meas := ⟨{ zone.meas.a with ring := [800, 800, 800, 800] }, zone.meas.b⟩ }
    let t := after (exec (.roundEnd shareWindow) s)
    t.damper.request = 96 ∧ t.damper.grant = 77 ∧ t.damper.percent = 81 ∧ t.damper.pending = 324 := by decide

/-- Chapter 9: straps that make a locked-out station a handler clear LOCKOUT, those of an outdoor station keep it. -/
theorem test_lockout_of_a_role :
    let s :=
      { after (exec .supplyMonitorRelease State.reset) with
        outdoor := { Outdoor.atReset with trips := [20, 10, 0], lockout := true } }
    (after (exec (.settleTimer 2 0) s)).outdoor.lockout = false ∧ (after (exec (.settleTimer 2 0) s)).outdoor.trips = [] ∧
      (after (exec (.settleTimer 1 0) s)).outdoor.lockout = true := by decide

/-- R60, R61: a period of 1000 ticks with 372 high gives its pair. -/
theorem test_capture :
    let s := { zone with meas := ⟨{ zone.meas.a with state := .waitEdge }, zone.meas.b⟩ }
    let t1 := after (exec (.captureRisingEdge .a 5) s)
    let t2 := after (exec (.captureFallingEdge .a 372) t1)
    let t3 := after (exec (.captureRisingEdge .a 628) t2)
    t3.meas.a.p = 1000 ∧ t3.meas.a.h = 372 ∧ t3.meas.a.fresh = true := by decide

/-! ### Witnesses: states and operands that meet the hypotheses of the obligations -/

/-- StepRunsTheFrontCommand: a station with an empty queue. -/
theorem witness_step : State.reset.pending = [] := by decide

/-- EventsThatCannotAriseChangeNothing: rows that cannot arise right after reset. -/
theorem witness_not_arising_at_reset :
    let s := State.reset
    CannotArise .resetPinHigh s ∧ CannotArise (.settleTimer 3 6) s ∧ CannotArise .roundTimerPa s ∧
      CannotArise (.noiseRunEnd 3) s ∧ CannotArise .roundStart s ∧ CannotArise .silenceEvent s ∧
      CannotArise .chordReset s ∧ CannotArise .stall s ∧ CannotArise .minOffEnd s ∧
      CannotArise (.captureRisingEdge .a 1) s ∧ CannotArise (.pwmPeriodEnd .blower) s ∧ CannotArise .tripFilterChange s := by
  simp only [CannotArise, Ticking]; decide

/-- EventsThatCannotAriseChangeNothing: rows that cannot arise in a station at work, each by the condition that is its
own: a directive to another station, a running key clock without a recognition, a met Pa, and ticks that bring nothing
about. -/
theorem witness_not_arising :
    let none : KeySample := ⟨false, false, false, false⟩
    let met := { zone with line := { zone.line with pace := .met } }
    CannotArise (.setCool 0 4 80) zone ∧ CannotArise (.keyPress .up none) zone ∧ CannotArise (.modeShortPress none) zone ∧
      CannotArise .roundTimerPa met ∧ CannotArise .supplyMonitorReset zone ∧ CannotArise .supplyMonitorRelease zone ∧
      CannotArise (.periodAbandoned .b) zone ∧ CannotArise .minOffEnd outdoor ∧ CannotArise .frostStop outdoor ∧
      CannotArise .dripEnd outdoor ∧ CannotArise .tripFilterChange outdoor ∧ CannotArise .damperPulse outdoor := by
  simp only [CannotArise, Heard, Ticking]; decide

/-- EventsThatCannotAriseChangeNothing: a second tick of a handler at work that ends no hold and changes no flag. -/
theorem witness_tick_brings_nothing :
    CannotArise .coldBlowHoldEnd handler ∧ CannotArise .supplyHotChange handler := by
  simp only [CannotArise]
  exact ⟨.inr (.inl (by decide)), .inr fun t h => by cases h; decide⟩

/-- EverySourceAssertsReset. -/
theorem witness_assertions :
    State.reset.rst.pin = false ∧ { zone with timers := { zone.timers with chord := .started } }.timers.chord.running = true ∧
      (let s := { zone with rst := { zone.rst with lowCount := 3 } };
        s.rst.supplyHeld = false ∧ s.rst.lowCount = 3 ∧ 2699 < 2700) := by decide

/-- EverySourceAssertsReset: samples at 2700 and 2699 mV outside a reset by supply and at 2999 mV within one. -/
theorem witness_supply_samples :
    (zone.rst.supplyHeld = false ∧ 2700 ≤ 2700) ∧ (zone.rst.supplyHeld = false ∧ 2699 < 2700 ∧ zone.rst.lowCount < 3) ∧
      (State.reset.rst.supplyHeld = true ∧ 2999 < 3000) := by decide

/-- LastSourceReleasesReset, for each source, with and without another one. -/
theorem witness_releases :
    let pin := after (exec .resetPinLow zone)
    let both := after (exec .resetPinLow State.reset)
    let chord := { State.reset with rst := { State.reset.rst with powerOn := false, chord := true } }
    (State.reset.rst.state = .asserted ∧ State.reset.rst.supplyHeld = true ∧ 3000 ≤ 3000) ∧
      (pin.rst.state = .asserted ∧ pin.rst.pin = true ∧ pin.rst.kind = .pin) ∧
      (both.rst.pin = true ∧ both.rst.supplyHeld = true) ∧ (chord.rst.state = .asserted ∧ chord.rst.chord = true) := by
  decide

/-- StrapsDecideTheStart, at addresses 1, 2, 3, 14, 0 and 15 and parameters 0 and 1. -/
theorem witness_straps :
    let s := after (exec (.supplySample 3000) State.reset)
    s.rst.state = .settling ∧ 1 ≤ (1 : Nibble).toNat ∧ (2 : Nibble).toNat ≤ 2 ∧
      (3 ≤ (3 : Nibble).toNat ∧ (14 : Nibble).toNat ≤ 14 ∧ (1 : Nibble) ≠ 0) ∧
      (3 ≤ (14 : Nibble).toNat ∧ (14 : Nibble).toNat ≤ 14 ∧ (0 : Nibble) = 0) := by decide

/-- RunsBetweenRoundsAreMeasured. -/
theorem witness_runs :
    zone.line.dominant = false ∧
      (let s := after (exec .dominantRunLeadingEdge zone);
        s.health.link ≠ .quiet ∧ s.line.dominant = true ∧ s.line.rx = .idle) := by decide

/-- NoiseEndsWithoutASync, with a mark that waits, with a silence event that waits, and with neither, at 11 bit times. -/
theorem witness_noise :
    let s := after (exec .dominantRunLeadingEdge zone)
    let a := { s with line := { s.line with pace := .deferred } }
    let l := after (exec .dominantRunLeadingEdge (station 3 6 .listen))
    let b := { l with line := { l.line with silenceWaits := true } }
    (s.line.dominant = true ∧ s.health.link ≠ .quiet ∧ s.line.rx ≠ .syncSeen ∧ 11 < 12 ∧ s.line.pace ≠ .deferred ∧
        s.line.silenceWaits = false) ∧
      (a.line.dominant = true ∧ a.line.rx ≠ .syncSeen ∧ a.line.pace = .deferred ∧ a.mayDrive = true) ∧
      (b.line.dominant = true ∧ b.line.rx ≠ .syncSeen ∧ b.line.silenceWaits = true ∧ b.health.link = .listen) := by decide

/-- SyncCutsTheWindowShort, with an image in every field, and a sync that comes just before and at the end of each field. -/
theorem witness_cut :
    let at' (us : Nat) : State :=
      { driving with timers := { driving.timers with run := ⟨true, 10000⟩, round := ⟨true, us⟩ } }
    let us (n : Nat) : Nat := (elapseTo (at' n).timers.run 10000 (at' n)).timers.round.us
    driving.health.link ≠ .quiet ∧ driving.line.dominant = true ∧ driving.line.rx.inRound = true ∧
      driving.asm.image = some image ∧ (reading 3 6 .joined 0).asm.image = none ∧
      (3 * us 4999 < 2500 * 6 ∧ 2500 * 6 ≤ 3 * us 5000) ∧ (3 * us 79999 < 2500 * 96 ∧ 2500 * 96 ≤ 3 * us 80000) ∧
      (3 * us 88333 < 2500 * 106 ∧ 2500 * 106 ≤ 3 * us 88334) ∧
      (3 * us 109166 < 2500 * 131 ∧ 2500 * 131 ≤ 3 * us 109167) ∧
      (3 * us 367499 < 2500 * 441 ∧ 2500 * 441 ≤ 3 * us 367500) := by decide

/-- TrailingEdgeStartsARound and RoundImageCarriesTheStation, in the three roles and in HOLDOVER. -/
theorem witness_round_start :
    let s (a p : Nibble) (l : LinkState) : State :=
      { station a p l with line := { (station a p l).line with rx := .syncSeen } }
    (s 3 6 .joined).line.rx = .syncSeen ∧ (s 3 6 .joined).role = .zone ∧ (s 3 6 .joined).mayDrive = true ∧
      (s 2 2 .joined).role = .handler ∧ (s 1 0 .joined).role = .outdoor ∧ (s 1 0 .listen).mayDrive = false ∧
      (s 14 1 .holdover).mayDrive = true ∧ (s 14 1 .holdover).health.link = .holdover := by decide

/-- A zone whose damper machine stands in `m` at `n` pulses of 200, with the bridge asked for its drive. -/
def damperAt (m : DamperState) (last : Direction) (n : Nat) : State :=
  let d := { zone.damper with machine := m, lastDrive := last, position := n, target := 200 }
  { zone with
    line := { zone.line with rx := .syncSeen }
    damper := d, out := { zone.out with bridge := { zone.out.bridge with asked := d.drive } } }

/-- The damper machine of `damperAt` meets its invariant where the last drive is the machine's own. -/
theorem damperAt_sound :
    DamperSound (damperAt .hold .opening 198) ∧ DamperSound (damperAt .opening .opening 202) ∧
      DamperSound (damperAt .closing .closing 204) ∧ DamperSound (damperAt .pause .opening 150) := by
  refine ⟨⟨?_, ?_, ?_, ?_, ?_⟩, ⟨?_, ?_, ?_, ?_, ?_⟩, ⟨?_, ?_, ?_, ?_, ?_⟩, ⟨?_, ?_, ?_, ?_, ?_⟩⟩ <;>
    first | (simp only [Damper.Sound]; decide) | decide

/-- TrailingEdgeStartsARound: a zone whose pending target is a new one, and one whose pending target is in effect. -/
theorem witness_new_target :
    let s := damperAt .hold .opening 198
    let w := { s with damper := { s.damper with pending := 200 } }
    s.line.rx = .syncSeen ∧ s.role = .zone ∧ s.damper.pending ≠ s.damper.target ∧ w.damper.pending = w.damper.target ∧
      (after (exec .roundStart s)).damper.machine = .opening := by decide

/-- LineTimersExpire: Pa and the mark. -/
theorem witness_pace :
    (zone.mayDrive = true ∧ zone.line.pace = .ahead ∧ zone.line.dominant = false) ∧
      (driving.mayDrive = true ∧ driving.line.pace = .ahead ∧ driving.line.dominant = true) ∧
      (after (exec .roundTimerPa zone)).timers.mark.running = true := by decide

/-- LineTimersExpire: silence and isolation. -/
theorem witness_silence_and_isolation :
    (station 1 0 .listen).health.link = .listen ∧ (station 1 0 .listen).line.dominant = false ∧
      (after (exec .dominantRunLeadingEdge (station 1 0 .listen))).line.dominant = true ∧
      (let s := { station 3 6 .isolated with timers := { zone.timers with isolation := .started } };
        s.health.link = .isolated ∧ s.timers.isolation.running = true ∧ s.health.addressClash = false) := by decide

set_option maxRecDepth 20000 in
/-- AcceptedRoundIsHandedOn, ThirdReceptionExecutesOnce, WindowIsDrivenFieldByField and QueueAgesAndDropsItsHead: accepted
rounds that carry a directive, with permission, without it in HOLDOVER, and as the eighth in LISTEN. -/
theorem witness_accepted :
    HandedOn coolWindow driving ∧ driving.mayDrive = true ∧ driving.line.permission = true ∧
      driving.asm.image = some image ∧ driving.line.rx.inRound = true ∧
      HandedOn coolWindow (reading 3 6 .holdover 0) ∧ (reading 3 6 .holdover 0).mayDrive = true ∧
      (reading 3 6 .holdover 0).line.permission = false ∧ HandedOn coolWindow (reading 3 6 .listen 7) ∧
      unpackDirective (viewOf coolWindow.data).directive = some ⟨0, 3, 0x01, 89⟩ ∧
      driving.dir.tracker.last ≠ some ⟨0, 3, 0x01, 89⟩ := by
  have no (s : State) (h : s.asm.image = none) : ∀ im, s.asm.image = some im → ClashAt coolWindow s im →
      s.health.clashCount = 0 := fun im k _ => by rw [h] at k; cases k
  refine ⟨⟨?_, by decide, .inl ⟨by decide, fun _ _ _ _ => rfl⟩⟩, by decide, by decide, rfl, by decide,
    ⟨?_, by decide, .inl ⟨by decide, fun _ => no _ rfl⟩⟩, by decide, by decide,
    ⟨?_, by decide, .inr ⟨by decide, by decide, by decide⟩⟩, by decide, by decide⟩ <;>
    (simp only [EndsAccepted]; decide)

set_option maxRecDepth 20000 in
/-- AcceptedRoundIsHandedOn and ThirdReceptionExecutesOnce with an empty DIRECTIVE field. -/
theorem witness_accepted_quiet :
    EndsAccepted quietWindow driving ∧ unpackDirective (viewOf quietWindow.data).directive = none := by
  simp only [EndsAccepted]; decide

set_option maxRecDepth 20000 in
/-- AcceptedRoundIsHandedOn, ThirdReceptionExecutesOnce and OnlyTheseClearLockout: third receptions, of a directive with a
row, of a READ of item 8, and of one without a row; and a bad end for QueueAgesAndDropsItsHead. -/
theorem witness_third_reception :
    let s (d : Directive) : State := { driving with dir := { driving.dir with tracker := ⟨some d, 2, none⟩ } }
    ThirdReception ⟨0, 3, 0x01, 89⟩ coolWindow (s ⟨0, 3, 0x01, 89⟩) ∧
      directiveRow ⟨0, 3, 0x01, 89⟩ = some (.setCool 0 3 89) ∧
      (EndsAccepted readWindow (s ⟨0, 3, 0x10, 8⟩) ∧ ThirdReception ⟨0, 3, 0x10, 8⟩ readWindow (s ⟨0, 3, 0x10, 8⟩)) ∧
      (EndsAccepted strangeWindow (s ⟨0, 3, 0x55, 9⟩) ∧
        ThirdReception ⟨0, 3, 0x55, 9⟩ strangeWindow (s ⟨0, 3, 0x55, 9⟩) ∧ directiveRow ⟨0, 3, 0x55, 9⟩ = none) ∧
      ¬ EndsAccepted ⟨1, 0, 0⟩ driving := by
  simp only [ThirdReception, EndsAccepted]; decide

/-- ThirdReceptionExecutesOnce: trackers that hold the directive at the counts 1, 2 and 3, executed or not. -/
theorem witness_trackers :
    let d : Directive := ⟨0, 3, 0x01, 89⟩
    let s (n : Nat) (x : Option ExecResult) : State := { driving with dir := { driving.dir with tracker := ⟨some d, n, x⟩ } }
    ((s 1 none).dir.tracker.last = some d ∧ (s 1 none).dir.tracker.count < 2 ∧ (s 1 none).dir.tracker.executed = none) ∧
      (2 ≤ (s 2 none).dir.tracker.count ∧ (s 2 none).dir.tracker.executed = none ∧ d.dest = driving.rst.address) ∧
      (s 3 (some ⟨true, 89⟩)).dir.tracker.executed ≠ none := by decide

set_option maxRecDepth 20000 in
/-- EighthAcceptedRoundJoins: the first and the eighth accepted round, and a bad one. -/
theorem witness_joining :
    let s (n : Nat) : State :=
      { station 3 6 .listen with
        line := { zone.line with rx := .window }
        health := { Health.atReset with link := .listen, joining := n } }
    (s 0).health.link = .listen ∧ (s 0).line.permission = false ∧ (s 0).line.rx.inRound = true ∧
      EndsAccepted coolWindow (s 6) ∧ (s 6).health.joining < 7 ∧ EndsAccepted coolWindow (s 7) ∧
      7 ≤ (s 7).health.joining ∧ EndsBad (.roundEnd ⟨1, 0, 0⟩) (s 0) := by
  simp only [EndsAccepted, EndsBad]; decide

set_option maxRecDepth 20000 in
/-- EighthAcceptedRoundJoins: a sync that cuts a window short in LISTEN, and a round whose STATE has the mode code 7. -/
theorem witness_joining_cut :
    let s := { reading 3 6 .listen 6 with line := { (reading 3 6 .listen 6).line with dominant := true } }
    s.health.link = .listen ∧ s.line.permission = false ∧ EndsBad (.syncRecognised quietWindow.data ⟨0, 0⟩) s ∧
      EndsAccepted lostModeWindow (reading 3 6 .listen 7) ∧
      modeOfCode ((viewOf lostModeWindow.data).state.toNat / 512) = none := by
  simp only [EndsAccepted, EndsBad]; decide

/-- NearEndCountsBadRounds: each kind of bad decision with permission. -/
theorem witness_near_end :
    LinkSound driving ∧ driving.decides = true ∧ EndsBad (.roundEnd ⟨0, 0, 1⟩) driving ∧ driving.line.permission = true ∧
      driving.dir.tests.mute = false ∧ EndsBad (.syncRecognised quietWindow.data ⟨0, 0⟩) driving ∧ EndsBad .missingRound driving := by
  simp only [LinkSound, EndsBad]; decide

/-- NearEndCountsBadRounds in LISTEN. -/
theorem witness_near_end_listen :
    let l := reading 3 6 .listen 0
    LinkSound l ∧ l.decides = true ∧ EndsBad (.roundEnd ⟨2, 0, 0⟩) l ∧ l.line.permission = false ∧
      l.health.link = .listen := by
  simp only [LinkSound, EndsBad]; decide

/-- NearEndCountsBadRounds under MUTE_COUNT. -/
theorem witness_near_end_mute :
    let m := { driving with dir := { driving.dir with tests := ⟨none, false, true⟩ } }
    LinkSound m ∧ m.dir.tests.mute = true ∧ EndsBad .missingRound m := by
  simp only [LinkSound, EndsBad]; decide

/-- BadRunsLeaveTheHouse: the bad rounds 3, 4, 29 and 30 of a run, in each role. -/
theorem witness_bad_runs :
    let s (a p : Nibble) (l : LinkState) (n : Nat) : State :=
      { station a p l with health := { Health.atReset with link := l, badRun := n } }
    EndsBad .missingRound (s 3 6 .joined 2) ∧ (s 3 6 .joined 2).health.badRun < 3 ∧
      EndsBad .missingRound (s 3 6 .joined 3) ∧ 3 ≤ (s 3 6 .joined 3).health.badRun ∧
      EndsBad .missingRound (s 3 6 .holdover 28) ∧ (s 3 6 .holdover 28).health.badRun < 29 ∧
      EndsBad .missingRound (s 3 6 .holdover 29) ∧ 29 ≤ (s 3 6 .holdover 29).health.badRun ∧
      (s 2 2 .holdover 29).role = .handler ∧ (s 1 0 .holdover 29).role = .outdoor := by
  simp only [EndsBad]; decide

/-- BadRunsLeaveTheHouse: the thirtieth bad round of a zone whose damper stands away from 400 and of one whose target is
400, of a handler in a cold-blow hold, and of an outdoor station that runs and of one that does not. -/
theorem witness_isolations :
    let bad (s : State) : State := { s with health := { s.health with link := .holdover, badRun := 29 } }
    let z := bad (damperAt .hold .opening 198)
    let h := bad { handler with handler := { handler.handler with holdActive := true, auxOn := true } }
    let o := bad { outdoor with outdoor := { outdoor.outdoor with comp := .running, speed := 50 } }
    (EndsBad .missingRound z ∧ z.role = .zone ∧ z.damper.target ≠ 400 ∧ DamperSound z ∧
        (after (exec .missingRound z)).damper.machine = .opening) ∧
      (EndsBad .missingRound (bad zone) ∧ zone.damper.target = 400) ∧
      (EndsBad .missingRound h ∧ h.role = .handler ∧ (after (exec .missingRound h)).handler.auxOn = false) ∧
      (EndsBad .missingRound o ∧ o.role = .outdoor ∧ (after (exec .missingRound o)).outdoor.comp = .minOff) ∧
      EndsBad .missingRound (bad outdoor) ∧ outdoor.outdoor.comp.isRunning = false := by
  have sound := damperAt_sound.1
  simp only [EndsBad]
  refine ⟨⟨by decide, by decide, by decide, ?_, by decide⟩, by decide, by decide, by decide, by decide⟩
  exact ⟨sound.1, fun h => absurd rfl h, sound.2.2⟩

/-- DamperWaitsEnd: a damper machine that seeks the stop, with its homing mark clear. -/
theorem witness_homing :
    let s := damperAt .homing .closing 300
    s.damper.seeking = true ∧ s.damper.Sound := by
  simp only [Damper.Sound]; decide

/-- BadRunsLeaveTheHouse: a round end with a framing error and a sync that cuts the window, with an image. -/
theorem witness_bad_rounds :
    driving.mayDrive = true ∧ EndsBad (.roundEnd ⟨0, 0, 1⟩) driving ∧
      EndsBad (.syncRecognised quietWindow.data ⟨0, 0⟩) driving ∧ driving.asm.image = some image ∧
      driving.line.permission = true := by
  simp only [EndsBad]; decide

set_option maxRecDepth 20000 in
/-- SecondClashIsolates: a dominant bit in the own SHARE slot at a clash count of 0 and of 1, and a round without one. -/
theorem witness_clash :
    let s := { driving with health := { driving.health with clashCount := 1 } }
    s.mayDrive = true ∧ EndsAccepted clashWindow s ∧ s.line.permission = true ∧ s.asm.image = some image ∧
      s.health.clashMark = false ∧ ClashAt clashWindow s image ∧ 1 ≤ s.health.clashCount ∧
      driving.health.clashCount = 0 ∧ ClashAt clashWindow driving image ∧ ¬ ClashAt quietWindow s image ∧
      (after (exec (.roundEnd clashWindow) s)).health.addressClash = true := by
  simp only [EndsAccepted, ClashAt]; decide

set_option maxRecDepth 20000 in
/-- ZoneWorksAtARound, HandlerWorksAtARound and OutdoorWorksAtARound: the round of the worked example in each role, with
each call, with and without valid readings, with a hold to cancel, and with a run and a defrost to stop. -/
theorem witness_role_rounds :
    let z := reading 3 6 .joined 0
    let h := { reading 2 2 .joined 0 with handler := { Handler.atReset with holdActive := true } }
    let o :=
      { reading 1 0 .joined 0 with
        outdoor := { Outdoor.atReset with comp := .running, speed := 30, side := some .heating, defrost := .drip } }
    HandedOn shareWindow z ∧ z.role = .zone ∧ z.tempA = none ∧ z.roomHumidity = none ∧
      { z with meas := ⟨{ z.meas.a with ring := [800, 800, 800, 800] }, z.meas.b⟩ }.tempA = some 300 ∧
      HandedOn shareWindow h ∧ h.role = .handler ∧ (after (exec (.roundEnd shareWindow) h)).handler.holdActive = false ∧
      HandedOn shareWindow o ∧ o.role = .outdoor ∧ (∀ d, ThirdReception d shareWindow o → d.code ≠ 0x23) ∧
      (after (exec (.roundEnd shareWindow) o)).outdoor.comp = .minOff := by
  have no (s : State) (h : s.asm.image = none) : ∀ im, s.asm.image = some im → ClashAt shareWindow s im →
      s.health.clashCount = 0 := fun im k _ => by rw [h] at k; cases k
  refine ⟨⟨?_, by decide, .inl ⟨by decide, fun _ => no _ rfl⟩⟩, by decide, by decide, by decide, by decide,
    ⟨?_, by decide, .inl ⟨by decide, fun _ => no _ rfl⟩⟩, by decide, by decide,
    ⟨?_, by decide, .inl ⟨by decide, fun _ => no _ rfl⟩⟩, by decide, (by intro d h; cases h.2.1), by decide⟩ <;>
    (simp only [EndsAccepted]; decide)

/-- FlagChangesAtTheThirdRound, at the counts 1 and 2. -/
theorem witness_flag : (FlagFilter.mk false 1).agree < 2 ∧ 2 ≤ (FlagFilter.mk false 2).agree := by decide

/-- The directive statements: a unicast and a broadcast that each role hears, with arguments at the ends of the sets. -/
theorem witness_heard :
    Heard 0 3 zone ∧ Heard 14 15 zone ∧ zone.role = .zone ∧ Heard 0 2 handler ∧ handler.role = .handler ∧
      Heard 0 1 outdoor ∧ outdoor.role = .outdoor ∧ settingOfCode (3 : Byte).toNat = some .off ∧
      (15 : Byte).toNat ≤ 15 ∧ 15 < (16 : Byte).toNat ∧ 3 < (4 : Byte).toNat := by
  simp only [Heard]; decide

/-- RoleTestsLatchTheirArgument: a damper fault, and none. -/
theorem witness_damper_fault :
    zone.damper.fault = false ∧
      { zone with damper := { zone.damper with fault := true, machine := .fault } }.damper.fault = true := by decide

/-- OutdoorDirectivesActOnThePlant: the conditions of FORCE_DEFROST, and a station without them. -/
theorem witness_force_defrost :
    let s :=
      { outdoor with
        coll := ⟨⟨.heat, 0⟩, .rest⟩
        outdoor := { outdoor.outdoor with comp := .running, speed := 30 } }
    Heard 0 1 s ∧ s.role = .outdoor ∧ s.coll.state.mode = .heat ∧ 0 < s.outdoor.speed ∧ s.outdoor.defrost = .normal ∧
      outdoor.outdoor.speed = 0 := by
  simp only [Heard]; decide

/-- QueueAgesAndDropsItsHead: entries at the ends of their ranges. -/
theorem witness_queue : ∀ x ∈ [QueueEntry.mk 1 2 2 15, ⟨1, 2, 0, 14⟩, ⟨1, 2, 0, 15⟩], x.wins < 3 ∧ x.age < 16 := by decide

/-- WellFormedPairsConvert, at the ends of P and H. -/
theorem witness_pairs :
    (500 ≤ 500 ∧ 500 ≤ 4000 ∧ 1 ≤ 1 ∧ 1 ≤ 500 - 1) ∧ (500 ≤ 4000 ∧ 4000 ≤ 4000 ∧ 1 ≤ 3999 ∧ 3999 ≤ 4000 - 1) ∧
      ¬ (500 ≤ 499 ∧ 499 ≤ 4000 ∧ 1 ≤ 1 ∧ 1 ≤ 499 - 1) ∧ ¬ (500 ≤ 1000 ∧ 1000 ≤ 4000 ∧ 1 ≤ 1000 ∧ 1000 ≤ 1000 - 1) := by
  decide

/-- SecondTickConsumesBothChannels: at work and before the entry to LISTEN, each role, and a third miss. -/
theorem witness_second_tick :
    let q := { station 3 6 .quiet with rst := { zone.rst with state := .settling } }
    let m := { zone with meas := ⟨{ zone.meas.a with misses := 2, fresh := true, p := 499, h := 1 }, zone.meas.b⟩ }
    zone.timers.second.running = true ∧ zone.rst.state = .checked ∧ q.timers.second.running = true ∧
      q.rst.state ≠ .checked ∧ handler.role = .handler ∧ outdoor.role = .outdoor ∧ (m.meas.channel .a).misses = 2 ∧
      (m.meas.channel .a).taken tempSample = none := by decide

/-- EdgesCaptureThePair: a channel in each state, fresh or not, at 65534 and 65535, and edges that come too soon. -/
theorem witness_capture :
    let s (x : CaptureState) (f : Bool) (p h : Nat) : Capture :=
      (elapse 0
          { zone with
            meas := ⟨{ zone.meas.a with state := x, fresh := f }, zone.meas.b⟩
            timers := { zone.timers with periodA := ⟨true, p⟩, highA := ⟨true, h⟩ } }).capture .a
    ((s .low false 65534 1).c.state = .low ∧ (s .low false 65534 1).period.us < 65535 ∧
        0 < (s .low false 65534 1).high.us ∧ (s .low false 65534 1).high.us < (s .low false 65534 1).period.us) ∧
      (s .low true 2 1).c.fresh = true ∧ 65535 ≤ (s .low true 65535 1).period.us ∧
      ¬ (s .low false 7 7).high.us < (s .low false 7 7).period.us ∧ (s .waitEdge false 0 0).c.state = .waitEdge ∧
      ((s .high false 65534 1).c.state = .high ∧ 0 < (s .high false 65534 1).high.us) ∧
      (s .high false 65535 9).c.state = .high ∧ (s .high false 0 0).high.us = 0 ∧
      (zone.capture .a).c.state = .stopped ∧ CaptureState.low ≠ .stopped := by decide

/-- CallFollowsTheRoom: a homed zone at work whose channels become valid at the tick. -/
theorem witness_call :
    let s :=
      { zone with
        damper := { zone.damper with machine := .hold, homed := true }
        meas := ⟨⟨.low, 1000, 373, true, [745, 745, 745], 0⟩, ⟨.low, 1000, 600, true, [600, 600, 600], 0⟩⟩ }
    Ticking s ∧ s.role = .zone ∧ (consumed s).tempA = some 245 ∧ (after (exec .secondTick s)).zone.call = .cool ∧
      (after (exec .secondTick s)).zone.d = 20 := by
  simp only [Ticking]; decide

/-- HandlerTicksChangeItsFlags: one state for each clause, at the ends of its conditions. -/
theorem witness_handler_ticks :
    let s (h : Handler) (m : Mode) (coil supply : Nat) : State :=
      { handler with
        handler := h
        coll := ⟨⟨m, 0⟩, .rest⟩
        health :=
          { handler.health with
            view := { View.zero with peakh := 56 }, plant := { PlantFilter.cleared with compRun := ⟨true, 0⟩ } }
        meas :=
          ⟨{ handler.meas.a with ring := [coil, coil, coil, coil] },
            { handler.meas.b with ring := [supply, supply, supply, supply] }⟩ }
    let h := Handler.atReset
    let s1 := s { h with holdActive := true, holdCount := 89 } .heat 100 100
    let s2 := s { h with frostRun := 29 } .dry 510 100
    let s3 := s { h with coilFrost := true, frostRun := 29 } .heat 570 100
    let s4 := s { h with hotRun := 9 } .heat 570 1050
    let s5 := s { h with supplyHot := true, hotRun := 9 } .heat 570 1000
    let s6 := s { h with auxRun := 599 } .heat 570 100
    (Ticking s1 ∧ s1.role = .handler ∧ s1.handler.holdActive = true ∧ s1.handler.holdCount = 89) ∧
      atMost (consumed s2).tempA 10 = true ∧ atLeast (consumed s3).tempA 70 = true ∧
      atLeast (consumed s4).tempB 550 = true ∧ atMost (consumed s5).tempB 500 = true ∧
      (s6.health.view.peakh.toNat = 56 ∧ s6.health.plant.compRun.value = true ∧
        (after (exec .auxHeatOn s6)).handler.auxOn = true) ∧
      (after (exec .coldBlowHoldEnd s1)).handler.holdActive = false ∧
      (after (exec .coilFrostChange s2)).handler.coilFrost = true ∧
      (after (exec .coilFrostChange s3)).handler.coilFrost = false ∧
      (after (exec .supplyHotChange s4)).handler.supplyHot = true ∧
      (after (exec .supplyHotChange s5)).handler.supplyHot = false := by
  simp only [Ticking]; decide

/-- OutdoorTicksStopTheCompressor: one state for each clause. -/
theorem witness_outdoor_ticks :
    let s (o : Outdoor) (frost : Bool) : State :=
      { outdoor with
        outdoor := o
        health := { outdoor.health with plant := { PlantFilter.cleared with coilFrost := ⟨frost, 0⟩ } }
        coll := ⟨⟨.cool, 0⟩, .rest⟩ }
    let o := Outdoor.atReset
    let s1 := s { o with offTimer := 179 } false
    let s2 := s { o with comp := .starting, speed := 30, frostStop := 299 } true
    let s3 := s { o with comp := .running, speed := 30, runTimer := 119 } false
    let s4 := s { o with comp := .stoppingMinRun, speed := 100, runTimer := 120 } false
    let s5 := s { o with trips := [3599, 3598] } false
    let s6 := s { o with comp := .tripped, offTimer := 4 } false
    (Ticking s1 ∧ s1.role = .outdoor ∧ s1.outdoor.comp = .minOff) ∧ s2.outdoor.comp.isRunning = true ∧
      s2.health.plant.coilFrost.value = true ∧ (defrostAfterTick s3 = .normal ∧ s3.outdoor.ct = 0) ∧
      defrostAfterTick s4 = .normal ∧ (∃ a ∈ s5.outdoor.trips, 3599 ≤ a) ∧
      (after (exec .secondTick s6)).outdoor.offTimer = 5 ∧ (after (exec .secondTick s2)).outdoor.frostStop = 0 ∧
      (after (exec .minOffEnd s1)).outdoor.comp = .stopped ∧ (after (exec .frostStop s2)).outdoor.comp = .minOff ∧
      (after (exec .normalStop s3)).outdoor.speed = 0 ∧ (after (exec .normalStop s4)).outdoor.comp = .minOff ∧
      (after (exec .tripAgeExpiry s5)).outdoor.trips = [3599] := by
  simp only [Ticking]; decide

/-- DefrostRunsItsPhases: one state for each clause, at the ends of its conditions. -/
theorem witness_defrost :
    let s (o : Outdoor) (air coil : Nat) : State :=
      { outdoor with
        outdoor := o
        coll := ⟨⟨.heat, 0⟩, .rest⟩
        meas :=
          ⟨{ outdoor.meas.a with ring := [air, air, air, air] }, { outdoor.meas.b with ring := [coil, coil, coil, coil] }⟩ }
    let o := { Outdoor.atReset with comp := .running, speed := 30, side := some .heating }
    let s1 := s { o with entryCount := 29, accumulator := 1199 } 530 470
    let s2 := s { o with defrost := .defrost, phase := 599 } 530 470
    let s3 := s { o with defrost := .defrost, phase := 3 } 530 620
    let s4 := s { o with defrost := .drip, phase := 29 } 530 470
    (Ticking s1 ∧ s1.role = .outdoor ∧ s1.outdoor.comp.isRunning = true ∧ s1.health.plant.coilFrost.value = false ∧
        (s1.rst.parameter.toNat + 2) * 600 ≤ min 65535 (s1.outdoor.accumulator + 1) ∧
        (consumed s1).tempA = some 30 ∧ (consumed s1).tempB = some (-30)) ∧
      atLeast (consumed s3).tempB 120 = true ∧
      (after (exec .defrostEntry s1)).outdoor.defrost = .defrost ∧ (after (exec .defrostEnd s2)).outdoor.defrost = .drip ∧
      (after (exec .defrostEnd s3)).outdoor.defrost = .drip ∧ (after (exec .dripEnd s4)).outdoor.defrost = .normal := by
  simp only [Ticking]; decide

/-- A station in DRIP at a phase of 29 s, with a capacity target of 0 and the given run timer, and its fan off for 2 s. -/
def draining (runTimer : Nat) : State :=
  { outdoor with
    outdoor :=
      { Outdoor.atReset with
        comp := .running, speed := 30, side := some .heating, defrost := .drip, phase := 29, runTimer := runTimer }
    coll := ⟨⟨.heat, 0⟩, .rest⟩ }

/-- DefrostRunsItsPhases: the end of DRIP at a tick that stops the machine and at one that does not. -/
theorem witness_drip_end :
    let goesOn : State := { draining 120 with outdoor := { (draining 120).outdoor with ct := 30 } }
    (Ticking (draining 120) ∧ (draining 120).role = .outdoor ∧ (draining 120).outdoor.comp.isRunning = true ∧
        (draining 120).out.fan.on = false ∧ 2000000 ≤ (consumed (draining 120)).timers.fan.us) ∧
      (after (exec .dripEnd (draining 120))).outdoor.comp = .minOff ∧
      (after (exec .dripEnd goesOn)).outdoor.comp = .running := by
  simp only [Ticking]; decide

/-- R151, R155, R157 and R169: DRIP ends and the machine stops at one tick; the fan comes on for its 2 s, and then goes
off. -/
theorem test_fan_at_drip_end_and_stop :
    let t := after (exec .secondTick (draining 119))
    t.outdoor.comp = .minOff ∧ t.out.fan = ⟨true, some false⟩ ∧ t.timers.fan = ⟨true, 0⟩ ∧
      (after (exec (.switchedIntervalEnd .fan) t)).out.fan = ⟨false, none⟩ := by decide

/-- CompressorRampsAndStarts: a running machine, and a stopped one that starts and one that does not. -/
theorem witness_compressor :
    let r := { outdoor with outdoor := { outdoor.outdoor with comp := .running, speed := 100 } }
    let s := { outdoor with outdoor := { outdoor.outdoor with comp := .stopped, offTimer := 180, ct := 30 } }
    let w := { s with coll := ⟨⟨.heat, 0⟩, .rest⟩ }
    Ticking r ∧ r.role = .outdoor ∧ r.outdoor.comp.isRunning = true ∧ s.outdoor.comp = .stopped ∧
      s.outdoor.defrost = .normal ∧ s.outdoor.frostStop = 0 ∧ s.outdoor.speed = 0 ∧ 0 < w.outdoor.ct ∧
      w.coll.state.mode = .heat ∧ w.out.tripActive = false ∧ w.outdoor.lockout = false ∧ s.coll.state.mode = .off := by
  simp only [Ticking]; decide

/-- KeySampleDebounces, PressMovesTheSetPoints and ModeKeyStepsAndOffers: samples that recognise each key alone, and one that
recognises nothing. -/
theorem witness_keys :
    let k (s : KeyState) (l : Bool) : KeyBlock := ⟨s, [l, l]⟩
    let s (up down mode : KeyBlock) : State :=
      { zone with
        zone := { zone.zone with up := up, down := down, mode := mode }
        timers := { zone.timers with modeHold := .started } }
    let r := k .released false
    let s1 := s (k .released true) (k .pressed true) r
    let s2 := s (k .pressed true) (k .released true) r
    let s3 := s r r (k .released true)
    let s4 := s (k .pressed false) (k .pressed false) (k .pressed false)
    let none : KeySample := ⟨false, false, false, false⟩
    (zone.timers.keyClock.running = true ∧ zone.recognitionAt .up none = .nothing ∧
        zone.recognitionAt .down none = .nothing ∧ zone.recognitionAt .mode none = .nothing ∧ zone.health.link ≠ .quiet) ∧
      (s1.recognitionAt .up ⟨true, true, false, false⟩ = .press ∧ s1.recognitionAt .down ⟨true, true, false, false⟩ = .nothing ∧
        s1.zone.down.state = .pressed) ∧
      (s2.recognitionAt .down ⟨true, true, false, false⟩ = .press ∧ s2.recognitionAt .up ⟨true, true, false, false⟩ = .nothing) ∧
      (s3.recognitionAt .mode ⟨false, false, true, false⟩ = .press ∧
        s3.recognitionAt .up ⟨false, false, true, false⟩ = .nothing) ∧
      (s4.recognitionAt .mode ⟨true, true, false, false⟩ = .release ∧
        s4.recognitionAt .up ⟨true, true, false, false⟩ = .nothing ∧ s4.timers.modeHold.running = true) ∧
      (s4.recognitionAt .up ⟨false, true, true, false⟩ = .release ∧
        s4.recognitionAt .down ⟨false, true, true, false⟩ = .nothing ∧
        s4.recognitionAt .mode ⟨false, true, true, false⟩ = .nothing) ∧
      s4.recognitionAt .down ⟨true, false, true, false⟩ = .release := by decide

/-- ModeKeyStepsAndOffers and PressMovesTheSetPoints: a Mode press of 3.0 s and one past it, a chord of 2.0 s and one short of
it, at the sample. -/
theorem witness_due_keys :
    let s (m c : Nat) : State :=
      { zone with timers := { zone.timers with modeHold := ⟨true, m⟩, chord := ⟨true, c⟩ } }
    let t (m c : Nat) : Timers := (elapseTo (s m c).timers.keyClock 16000 (s m c)).timers
    ¬ 3000000 < (t 2984000 0).modeHold.us ∧ 3000000 < (t 2984001 0).modeHold.us ∧
      2000000 ≤ (t 0 1984000).chord.us ∧ ¬ 2000000 ≤ (t 0 1983999).chord.us ∧ (t 2984001 1984000).chord.running = true ∧
      zone.timers.modeHold.running = false := by decide

/-- PulseMovesThePosition: parked, and each state with the position at 2 and at 3 pulses from the target; sound states are
those of damperAt_sound. -/
theorem witness_pulse :
    let s (m : DamperState) (d : Direction) (n : Nat) : State :=
      { zone with damper := { zone.damper with machine := m, lastDrive := d, position := n, target := 200 } }
    let gap (s : State) : Int := (s.damper.target : Int) - (after (exec .damperPulse s)).damper.position
    zone.role = .zone ∧ zone.damper.machine = .parked ∧ (s .opening .opening 197).role = .zone ∧
      gap (s .opening .opening 197) = 2 ∧ gap (s .opening .opening 196) = 3 ∧ gap (s .opening .opening 202) = -3 ∧
      gap (s .closing .closing 203) = -2 ∧ gap (s .closing .closing 204) = -3 ∧ gap (s .closing .closing 198) = 3 ∧
      gap (s .hold .closing 198) = 3 ∧ gap (s .hold .opening 202) = -3 ∧
      (after (exec .damperPulse (s .opening .opening 202))).damper.machine = .pause := by decide

/-- StallIsHandledByState: homing, a re-zero at 40, and counted stalls at 41, the second and the third. -/
theorem witness_stall :
    let s (m : DamperState) (n k : Nat) : State :=
      { zone with damper := { zone.damper with machine := m, lastDrive := .closing, position := n, stalls := k } }
    ((s .homing 7 0).damper.machine = .homing ∧ (s .homing 7 0).damper.lastDrive = .closing) ∧
      ((s .closing 40 0).damper.position ≤ 40 ∧ (s .closing 40 0).damper.machine = .closing) ∧
      (40 < (s .closing 41 1).damper.position ∧ (s .closing 41 1).damper.stalls < 2) ∧
      (2 ≤ (s .opening 100 2).damper.stalls ∧ (s .opening 100 2).damper.machine = .opening) := by decide

/-- DamperWaitsEnd: each wait. -/
theorem witness_waits :
    let s (m : DamperState) (h : Bool) : State :=
      { zone with
        damper := { zone.damper with machine := m, homingPause := h, position := 0 }
        timers := { zone.timers with motorRest := .started, retry := .started } }
    ((s .pause true).damper.machine = .pause ∧ (s .pause true).damper.homingPause = true) ∧
      ((s .pause false).damper.homingPause = false ∧ (s .pause false).timers.motorRest.running = true) ∧
      ((s .retry false).damper.machine = .retry ∧ (s .retry false).timers.motorRest = (s .retry false).timers.retry ∧
        (s .retry false).timers.retry.running = true) ∧
      (s .homing false).damper.seeking = true ∧ (s .pause true).damper.seeking = true := by decide

/-- PeriodsAndIntervalsEnd, IndicatorsAndPinsFollowTheState and BridgeKeepsItsDeadTime: the clocks run, a request is held, and a half waits at 99 µs. -/
theorem witness_outputs :
    let s := { zone with out := { zone.out with valve := ⟨false, some true⟩ } }
    let b :=
      { zone with
        out := { zone.out with bridge := ⟨some .opening, none, some .closing⟩ }
        timers := { zone.timers with bridge := ⟨true, 1000⟩, bridgeDead := ⟨true, 99⟩ } }
    (∀ c ∈ [PwmChannel.blower, .bypass, .compressor], (zone.pwmTimer c).running = true) ∧ zone.timers.blink.running = true ∧
      (zone.out.switched .valve).held = none ∧ (s.out.switched .valve).held = some true ∧
      b.timers.bridge.running = true ∧ b.out.bridge.asked = some .opening ∧
      b.out.bridge.lastHalf = some Direction.opening.other ∧
      (elapseTo b.timers.bridge 1000 b).timers.bridgeDead.us < 100 ∧ zone.out.bridge.asked = none := by decide

/-- EighthTripSampleChangesTheLevel: samples at the filtered level and at the other, the seventh and the eighth, on the handler
and, both ways, on the outdoor station. -/
theorem witness_trip_samples :
    let o (n : Nat) (x : Bool) : State := { outdoor with out := { outdoor.out with tripRun := n, tripActive := x } }
    outdoor.timers.tripClock.running = true ∧ outdoor.role = .outdoor ∧ (o 7 false).out.tripActive = false ∧
      (o 6 false).out.tripRun < 7 ∧ (o 7 true).out.tripActive = true ∧ handler.role = .handler ∧
      handler.timers.tripClock.running = true ∧ (after (exec (.tripInputSample true) (o 7 false))).outdoor.comp = .tripped ∧
      (after (exec .tripFilterChange (o 7 true))).out.tripActive = false := by decide

/-- ProposalFollowsHoldAndCalls. -/
theorem witness_proposals :
    ({ View.zero with flags := 4 }).flags.getLsbD 2 = true ∧ View.zero.flags.getLsbD 2 = false ∧
      0 < (Collective.mk .cool 300).hold ∧ Collective.rest.hold = 0 := by decide

/-- FieldsPackAndUnpack: a hold at the end of its range, and the slots of stations 1 and 14. -/
theorem witness_hold : (Collective.mk .heat 511).hold ≤ 511 ∧ 1 ≤ 1 ∧ 14 ≤ 14 ∧ 7 < 8 := by decide

/-- WireCarriesTheLargestValue: the wire of the worked example. -/
theorem witness_wire :
    ([39, 41, 12] : List Byte) ≠ [] ∧
      ∀ i < 8, (41 : Byte).getMsbD i = ([39, 41, 12] : List Byte).any fun own => (arbitrated own 41).getMsbD i := by decide

/-- A step goes on from a station at work. -/
theorem witness_goes_on : step driving = .next (elapse 1 driving) := rfl

/-- The invariants of link, settings, counts, rings and collective mode hold in a station at work. -/
theorem witness_invariants :
    LinkSound driving ∧ driving.zone.settings.Sound ∧ driving.health.CountsSound ∧ driving.coll.Sound ∧
      driving.meas.a.Sound ∧ driving.meas.b.Sound := by
  refine ⟨?_, ?_, ?_, ?_, ⟨?_, ?_, ?_, ?_⟩, ⟨?_, ?_, ?_, ?_⟩⟩ <;>
    first
      | decide
      | (simp only [LinkSound]; decide)
      | (simp only [Settings.Sound]; decide)
      | (simp only [Health.CountsSound]; decide)
      | (simp only [CollectiveBlock.Sound]; decide)

/-- The invariant of the directive unit holds with a full queue and a role test. -/
theorem witness_unit :
    UnitSound { driving with dir := ⟨[⟨1, 104, 2, 15⟩, ⟨2, 96, 0, 3⟩, ⟨1, 1, 0, 0⟩, ⟨2, 2, 0, 0⟩], .cleared, none, ⟨some 100, true, true⟩⟩ } := by
  refine ⟨by decide, by decide, by decide, ?_, by decide⟩
  intro arg h
  cases h
  show testArgSound driving.role 100
  simp only [show driving.role = .zone by decide, testArgSound]
  decide

/-- The invariants of demand and damper hold in a zone that calls and drives. -/
theorem witness_zone_invariants :
    let s :=
      { driving with
        zone := { driving.zone with call := .cool, d := 63, a := 1008, served := true }
        damper := { driving.damper with machine := .opening, lastDrive := .opening }
        out := { driving.out with bridge := ⟨some .opening, some .opening, none⟩ } }
    s.zone.Sound ∧ DamperSound s := by
  refine ⟨⟨by decide, ?_, by decide⟩, ⟨?_, by decide, by decide, ?_, ?_⟩⟩
  · simp only [demandSound]; decide
  · simp only [Damper.Sound]; decide
  · intro h e; cases e; rfl
  · intro h e; cases e; rfl

/-- The invariants of the plant hold in an outdoor station at 100 %. -/
theorem witness_plant_invariants :
    let s := { outdoor with outdoor := { outdoor.outdoor with comp := .running, speed := 100, ct := 100, pendingCt := 30 } }
    CompressorSound s ∧ ChannelSound s ∧ s.handler.Sound ∧ ∀ c, (s.out.pwm c).Sound := by
  refine ⟨?_, ?_, ?_, ?_⟩
  · simp only [CompressorSound, capacitySound]; decide
  · simp only [ChannelSound]; decide
  · simp only [Handler.Sound]; decide
  · intro c; cases c <;> (simp only [Pwm.Sound]; decide)

/-- OnlyTheseClearLockout: CLEAR_TRIP clears LOCKOUT. -/
theorem witness_lockout :
    let s := { outdoor with outdoor := { outdoor.outdoor with lockout := true, trips := [1, 0] } }
    s.outdoor.lockout = true ∧ (after (exec (.clearTrip 0 1 7) s)).outdoor.lockout = false := by decide

end Sys2Proof.Tests
end

/-! SUPPORT and O15. What each command that brings a bad decision decides, and the near-end count that follows. -/

namespace Sys2Proof.Machine

/-! ### The commands that bring a bad decision (R8, R10, R13) -/

/-- Time that passes in a round does not end the reading of it: the guard leads on to the window (R3, R7). -/
theorem elapseTo_inRound (t : Timer) (limit : Nat) (s : State) :
    (elapseTo t limit s).line.rx.inRound = s.line.rx.inRound := by
  rw [elapseTo, elapse_rx, rxAfterGuard]
  split
  · next h => simp [h.1, RxState.inRound]
  · rfl

/-- ROUND_END of a round being read ends its window, 482 bit times after the round start (R8). -/
theorem exec_roundEnd_of_inRound {s : State} (w : Window) (hr : s.line.rx.inRound = true) :
    exec (.roundEnd w) s = .next (windowEnd w (elapseTo s.timers.round (Config.bitsUs Config.roundBits) s)) := by
  simp only [exec, execRoundEnd, hr, if_true]

/-- SYNC_RECOGNISED in a round cuts its window short, when the run in progress reaches 12 bit times (R5, R10). -/
theorem exec_syncRecognised_of_inRound {s : State} (data : RoundBits) (frame : FrameLevels) (hq : s.receives = true)
    (hd : s.line.dominant = true) (hr : s.line.rx.inRound = true) :
    exec (.syncRecognised data frame) s =
      .next (cutShort data (elapseTo s.timers.run (Config.bitsUs Config.syncBits) s)) := by
  have hx : s.line.rx ≠ .syncSeen := by rintro e; simp [e, RxState.inRound] at hr
  simp only [exec, execSyncRecognised]
  rw [if_pos ⟨hq, hd, hx⟩, if_pos ((elapseTo_inRound _ _ s).trans hr)]

/-- MISSING_ROUND at a station that drives: the round timer, at 2 × Pa, starts again, and the missing round is decided
(R13). -/
theorem exec_missingRound_of_mayDrive {s : State} (hd : s.mayDrive = true) :
    exec .missingRound s =
      .next (takeDecision .missing .zero
        (let s1 := elapseTo s.timers.round (2 * s.paUs) s
        { s1 with line := { s1.line with pace := .ahead }, timers := { s1.timers with round := .started } })) := by
  simp only [exec, execMissingRound, hd, if_true]

/-- Reading a window leaves drive permission as it is (R15, R18). -/
theorem LineBlock.read_permission (a : Nibble) (im : Option Image) (bits ended : Nat) (data : RoundBits)
    (l : LineBlock) :
    (l.read a im bits ended data).permission = l.permission := by
  cases im <;> rfl

/-- The decision on a window with a framing error or a check that disagrees is neither accepted nor missing (R37). -/
theorem verdictOf_bad {framing : Bool} {data : RoundBits}
    (h : framing = true ∨ computedCheck data ≠ (viewOf data).check) :
    (verdictOf framing data).isAccepted = false ∧ verdictOf framing data ≠ .missing := by
  unfold verdictOf
  split
  · exact ⟨rfl, by decide⟩
  · next hf =>
    rw [if_neg (h.resolve_left hf)]
    exact ⟨rfl, by decide⟩

/-- The station `u` comes to a decision with the link state, the near-end count, the MUTE_COUNT latch and the drive permission
that `s` had: all of the station that the near-end count after the decision depends on (R42, R44). -/
structure CountsFrom (s u : State) : Prop where
  link : u.health.link = s.health.link
  nearEnd : u.health.nearEnd = s.health.nearEnd
  mute : u.dir.tests.mute = s.dir.tests.mute
  permission : u.line.permission = s.line.permission

/-- A command that brings a bad decision completes by taking one, of which only the missing round's is `.missing` (R8, R10,
R13, R37). -/
theorem exec_endsBad {c : Instr} {s : State} (h : EndsBad c s) :
    ∃ v w u, exec c s = .next (takeDecision v w u) ∧ v.isAccepted = false ∧ (v = .missing ↔ c = .missingRound) ∧
      CountsFrom s u := by
  cases c with
  | roundEnd w =>
    obtain ⟨hr, hbad⟩ := h
    have hb : (s.line.framing || framingIn w) = true ∨ computedCheck w.data ≠ (viewOf w.data).check := by
      simpa [framingIn, or_assoc] using hbad
    obtain ⟨hv, hm⟩ := verdictOf_bad hb
    refine ⟨_, _, _, exec_roundEnd_of_inRound w hr, hv, iff_of_false hm (by simp), ?_⟩
    exact ⟨rfl, rfl, rfl, LineBlock.read_permission ..⟩
  | syncRecognised data frame =>
    obtain ⟨hq, hd, hr⟩ := h
    refine ⟨_, _, _, exec_syncRecognised_of_inRound data frame hq hd hr, rfl, by simp, ?_⟩
    exact ⟨rfl, rfl, rfl, LineBlock.read_permission ..⟩
  | missingRound =>
    exact ⟨_, _, _, exec_missingRound_of_mayDrive h, rfl, by simp, ⟨rfl, rfl, rfl, rfl⟩⟩
  | _ => exact h.elim

/-! ### The near-end count at a bad decision (R42) -/

/-- After a bad decision the near-end count is what the acceptance block made of it: the move of the link state leaves it
(R42, R51, R54). -/
theorem takeDecision_bad_nearEnd {v : Verdict} (w : View) {s : State} (hd : s.decides = true)
    (hv : v.isAccepted = false) :
    (takeDecision v w s).health.nearEnd = (decideRound v w s).health.nearEnd := by
  obtain ⟨hn, -⟩ | ⟨-, hc, -⟩ | ⟨-, -, -, ht⟩ | ⟨-, ha, -⟩ | ⟨_, _, _, ht, -⟩ := takeDecision_cases v w s
  · simp [hd] at hn
  · simp [clashes, hv] at hc
  · simp [ht, enterIsolated, Health.isolate]
  · simp [hv] at ha
  · rw [ht]; rfl

/-- The near-end count at a bad decision: one more, up to 255, for a round with drive permission and for a missing round,
and as it was otherwise and under MUTE_COUNT (R42, R44). -/
theorem decideRound_bad_nearEnd {v : Verdict} (w : View) (s : State) (hv : v.isAccepted = false) :
    (decideRound v w s).health.nearEnd =
      if (s.line.permission = true ∨ v = .missing) ∧ s.dir.tests.mute = false then min 255 (s.health.nearEnd + 1)
      else s.health.nearEnd := by
  simp [decideRound, Health.decided, countsNear, countUp, hv]

/-- A station in LISTEN drives no round (R2). -/
theorem permission_of_listen {s : State} (hs : LinkSound s) (hl : s.health.link = .listen) :
    s.line.permission = false := by
  obtain ⟨hdrive, -⟩ := hs
  cases hp : s.line.permission with
  | false => rfl
  | true => simpa [State.mayDrive, hl] using hdrive (.inl hp)

/-- Settles O15: every command that brings a bad decision takes one, and a bad decision moves the near-end count in the
acceptance block alone. -/
theorem nearEndCountsBadRounds : Obligations.NearEndCountsBadRounds := by
  intro c s hs hd hb
  obtain ⟨v, w, u, hx, hv, hm, hu⟩ := exec_endsBad hb
  have hud : u.decides = true := by rw [State.decides, hu.link]; exact hd
  have ht : (takeDecision v w u).health.nearEnd =
      if (s.line.permission = true ∨ c = .missingRound) ∧ s.dir.tests.mute = false then min 255 (s.health.nearEnd + 1)
      else s.health.nearEnd := by
    rw [takeDecision_bad_nearEnd w hud hv, decideRound_bad_nearEnd w u hv, hu.permission, hu.mute, hu.nearEnd]
    simp only [hm]
  refine ⟨_, hx, ?_, ?_, fun hmute => ⟨?_, ?_, ?_⟩⟩
  · intro h; rw [ht]; split <;> omega
  · intro hmute; simp [ht, hmute]
  · intro hcount; rw [ht, if_pos ⟨hcount, hmute⟩]
  · intro hp hc; simp [ht, hp, hc]
  · intro hl
    have hc : c ≠ .missingRound := by
      rintro rfl
      have hdrive : s.mayDrive = true := hb
      simp [State.mayDrive, hl] at hdrive
    simp [ht, permission_of_listen hs hl, hc]

end Sys2Proof.Machine

/-! SUPPORT and O27. What each conversion gives on a well-formed pair and on any other. -/

namespace Sys2Proof.Machine

/-! ### The conversions of a pair (R64 to R66) -/

theorem wellFormedPair_iff {p h : Nat} :
    wellFormedPair p h = true ↔ 500 ≤ p ∧ p ≤ 4000 ∧ 1 ≤ h ∧ h ≤ p - 1 :=
  decide_eq_true_iff

/-- The rounded conversion by the scale `k`, as one quotient (00_scope.md). -/
theorem roundNearest_scaled (k p h : Nat) : roundNearest (k * h) p = (2 * k * h + p) / (2 * p) := by
  rw [roundNearest, Nat.mul_assoc]

/-- A ratio H / P of at most 1, scaled by `k` and rounded to nearest, is at most `k`. -/
theorem roundNearest_scaled_le (k : Nat) {p h : Nat} (hp : 0 < p) (hle : h ≤ p) : roundNearest (k * h) p ≤ k :=
  roundNearest_le hp (Nat.mul_le_mul_left k hle)

/-- On a well-formed pair the limit of the humidity conversion to 1000 changes no value (R66). -/
theorem humSample_of_wellFormed {p h : Nat} (hw : wellFormedPair p h = true) :
    humSample p h = some (roundNearest (1000 * h) p) := by
  obtain ⟨hp, -, -, hh⟩ := wellFormedPair_iff.1 hw
  have hlim : roundNearest (1000 * h) p ≤ 1000 := roundNearest_scaled_le 1000 (by omega) (by omega)
  rw [humSample, if_pos hw, Nat.min_eq_right hlim]

/-- On a well-formed pair the temperature conversion gives its value within 100..1500, and a miss outside (R65). -/
theorem tempSample_of_wellFormed {p h : Nat} (hw : wellFormedPair p h = true) :
    tempSample p h =
      if 100 ≤ roundNearest (2000 * h) p ∧ roundNearest (2000 * h) p ≤ 1500 then some (roundNearest (2000 * h) p)
      else none :=
  if_pos hw

/-- A pair that is not well formed gives no sample under either conversion (R64). -/
theorem samples_of_not_wellFormed {p h : Nat} (hw : ¬ wellFormedPair p h = true) :
    humSample p h = none ∧ tempSample p h = none :=
  ⟨if_neg hw, if_neg hw⟩

/-- Settles O27: on a well-formed pair H is below P, so either scale bounds its rounded quotient. -/
theorem wellFormedPairsConvert : Obligations.WellFormedPairsConvert := by
  intro p h
  have hhum : roundNearest (1000 * h) p = (2000 * h + p) / (2 * p) := roundNearest_scaled 1000 p h
  have htemp : roundNearest (2000 * h) p = (4000 * h + p) / (2 * p) := roundNearest_scaled 2000 p h
  rw [← hhum, ← htemp]
  refine ⟨fun hr => ?_, fun hr => samples_of_not_wellFormed (mt wellFormedPair_iff.1 hr)⟩
  have hw : wellFormedPair p h = true := wellFormedPair_iff.2 hr
  obtain ⟨hp, -, hh, hlt⟩ := hr
  have hpos : 0 < p := by omega
  have hle : h ≤ p := by omega
  exact ⟨humSample_of_wellFormed hw, roundNearest_scaled_le 1000 hpos hle, by omega, by omega,
    roundNearest_scaled_le 2000 hpos hle, tempSample_of_wellFormed hw⟩

end Sys2Proof.Machine

/-! SUPPORT and O30. The zone's second tick as the call machine's move on the readings of that tick, and what a move sets. -/

namespace Sys2Proof.Machine

/-! ### The second tick of a zone at work (R62, R63, R83) -/

/-- SECOND_TICK at a zone station at work consumes both channels and then runs the call machine (R63, R83). -/
theorem exec_secondTick_of_zone {s : State} (ht : Ticking s) (hr : s.role = .zone) :
    exec .secondTick s = .next (zoneTick (consumed s)) := by
  obtain ⟨hrun, hchk⟩ := ht
  have hstarted : s.started = true := decide_eq_true hchk
  have hrole : (consumed s).role = .zone := hr
  simp only [exec, execSecondTick, secondTick, roleTick, hrun, hstarted, hrole, if_true]

/-- The call machine of a ticking zone takes the damper's state from before the tick and the readings of this tick (R63,
R83). -/
theorem zoneTick_consumed_zone (s : State) :
    (zoneTick (consumed s)).zone =
      s.zone.tick (s.damper.fault || !s.damper.homed) (zoneTick (consumed s)).tempA
        (zoneTick (consumed s)).roomHumidity := rfl

/-! ### What the tests of R84 say -/

theorem ZoneSetting.coolAllowed_eq (x : ZoneSetting) : x.coolAllowed = decide (x = .auto ∨ x = .coolOnly) := by
  cases x <;> rfl

theorem ZoneSetting.heatAllowed_eq (x : ZoneSetting) : x.heatAllowed = decide (x = .auto ∨ x = .heatOnly) := by
  cases x <;> rfl

theorem dryWanted_iff (z : Settings) (tm : Int) (rh : Option Int) :
    dryWanted z tm rh = true ↔ atLeast rh (z.hl + 50) = true ∧ z.sh + 10 ≤ tm := by
  cases rh <;> simp [dryWanted, atLeast]

theorem dryOver_iff (z : Settings) (rh : Option Int) : dryOver z rh = true ↔ atMost rh z.hl = true ∨ rh = none := by
  cases rh <;> simp [dryOver, atMost]

/-- The machine enters DRY from another call only on a valid humidity reading (R84). -/
theorem humidity_of_nextCall_dry {call : Call} {z : Settings} {tm : Int} {rh : Option Int} (hc : call ≠ .dry)
    (h : nextCall call z tm rh = .dry) : ∃ r, rh = some r := by
  cases rh with
  | some r => exact ⟨r, rfl⟩
  | none =>
    cases call with
    | dry => exact absurd rfl hc
    | _ => simp [nextCall, dryWanted, ite_eq_iff] at h

/-! ### The call after a tick (R83, R84) -/

/-- A damper fault, or homing not complete, ends every call (R83). -/
theorem Zone.callAfterTick_blocked (z : Zone) (tm rh : Option Int) : z.callAfterTick true tm rh = .none := by
  cases tm <;> rfl

/-- A zone calls after a tick only on a valid temperature reading, by a move of R84 (R83). -/
theorem Zone.callAfterTick_ne_none {z : Zone} {blocked : Bool} {tm rh : Option Int}
    (h : z.callAfterTick blocked tm rh ≠ .none) :
    ∃ t, tm = some t ∧ z.callAfterTick blocked tm rh = nextCall z.call z.settings t rh := by
  cases tm with
  | none => exact absurd rfl h
  | some t =>
    cases blocked with
    | true => exact absurd rfl h
    | false => exact ⟨t, rfl, rfl⟩

/-! ### What a tick makes of the zone (R85) -/

@[simp] theorem Zone.moveTo_call (c : Call) (tm rh : Option Int) (z : Zone) : (z.moveTo c tm rh).call = c := by
  cases c <;> rfl

/-- A tick at which the call of R83 and R84 is the present one leaves the zone as it was; any other is one move to that
call (R85). -/
theorem Zone.tick_cases (z : Zone) (blocked : Bool) (tm rh : Option Int) :
    (z.callAfterTick blocked tm rh = z.call ∧ z.tick blocked tm rh = z) ∨
      (z.callAfterTick blocked tm rh ≠ z.call ∧
        z.tick blocked tm rh = z.moveTo (z.callAfterTick blocked tm rh) tm rh) := by
  unfold Zone.tick
  split
  · next h => exact .inl ⟨h, rfl⟩
  · next h => exact .inr ⟨h, rfl⟩

/-- The tick's call is the one of R83 and R84, whether the machine moves there or is there already. -/
theorem Zone.tick_call (z : Zone) (blocked : Bool) (tm rh : Option Int) :
    (z.tick blocked tm rh).call = z.callAfterTick blocked tm rh := by
  obtain ⟨hc, h⟩ | ⟨-, h⟩ := z.tick_cases blocked tm rh
  · rw [h, hc]
  · rw [h, Zone.moveTo_call]

/-- A tick that keeps the call keeps the whole zone (R85). -/
theorem Zone.tick_eq_self {z : Zone} {blocked : Bool} {tm rh : Option Int}
    (h : (z.tick blocked tm rh).call = z.call) : z.tick blocked tm rh = z := by
  rw [Zone.tick_call] at h
  exact if_pos h

/-- The tick leaves the settings and the keys as they were. -/
theorem Zone.tick_frame (z : Zone) (blocked : Bool) (tm rh : Option Int) :
    (z.tick blocked tm rh).settings = z.settings ∧ (z.tick blocked tm rh).up = z.up ∧
      (z.tick blocked tm rh).down = z.down ∧ (z.tick blocked tm rh).mode = z.mode := by
  obtain ⟨-, h⟩ | ⟨-, h⟩ := z.tick_cases blocked tm rh
  · rw [h]; exact ⟨rfl, rfl, rfl, rfl⟩
  · rw [h]; cases z.callAfterTick blocked tm rh <;> exact ⟨rfl, rfl, rfl, rfl⟩

/-! ### The demand a move sets (R88, R89) -/

theorem errorDemand_zero (e : Int) : (errorDemand e 0 : Int) = max 1 (min 63 (2 * (e + 5))) := by
  unfold errorDemand limitInt; omega

theorem dryDemand_eq (rh hl : Int) : (dryDemand rh hl : Int) = max 4 (min 32 ((rh - hl) / 5)) := by
  unfold dryDemand limitInt; omega

/-- A move of the call machine to `y.call`: the served mark is cleared, and A and D are set by the call, with the readings
`tm` and `rh` (R85). -/
structure Moved (tm rh : Option Int) (z y : Zone) : Prop where
  served : y.served = false
  toNone : y.call = .none → y.d = 0 ∧ y.a = z.a
  toDry : y.call = .dry → y.a = z.a ∧
    ∃ r, rh = some r ∧ (y.d : Int) = max 4 (min 32 ((r - z.settings.hl) / 5))
  toCool : y.call = .cool → y.a = 0 ∧
    ∃ t, tm = some t ∧ (y.d : Int) = max 1 (min 63 (2 * (t - z.settings.sc + 5)))
  toHeat : y.call = .heat → y.a = 0 ∧
    ∃ t, tm = some t ∧ (y.d : Int) = max 1 (min 63 (2 * (z.settings.sh - t + 5)))

/-- A tick that changes the call is a move with the readings of that tick, which are valid where the new demand needs them
(R84, R85). -/
theorem Zone.tick_moved {z : Zone} {blocked : Bool} {tm rh : Option Int}
    (h : (z.tick blocked tm rh).call ≠ z.call) : Moved tm rh z (z.tick blocked tm rh) := by
  obtain ⟨-, hs⟩ | ⟨hne, hm⟩ := z.tick_cases blocked tm rh
  · exact absurd (congrArg Zone.call hs) h
  rw [hm]
  cases hc : z.callAfterTick blocked tm rh with
  | none => exact ⟨rfl, fun _ => ⟨rfl, rfl⟩, nofun, nofun, nofun⟩
  | cool =>
    obtain ⟨t, rfl, -⟩ := Zone.callAfterTick_ne_none (by rw [hc]; nofun)
    exact ⟨rfl, nofun, nofun, fun _ => ⟨rfl, t, rfl, errorDemand_zero _⟩, nofun⟩
  | heat =>
    obtain ⟨t, rfl, -⟩ := Zone.callAfterTick_ne_none (by rw [hc]; nofun)
    exact ⟨rfl, nofun, nofun, nofun, fun _ => ⟨rfl, t, rfl, errorDemand_zero _⟩⟩
  | dry =>
    obtain ⟨t, rfl, hn⟩ := Zone.callAfterTick_ne_none (by rw [hc]; nofun)
    rw [hc] at hne hn
    obtain ⟨r, rfl⟩ := humidity_of_nextCall_dry hne.symm hn.symm
    exact ⟨rfl, nofun, fun _ => ⟨rfl, r, rfl, dryDemand_eq _ _⟩, nofun, nofun⟩

/-- Settles O30: the tick's call by R83 and R84, case by case of the call before, and R85 for what a move sets. -/
theorem callFollowsTheRoom : Obligations.CallFollowsTheRoom := by
  intro s ht hr
  refine ⟨_, exec_secondTick_of_zone ht hr, ?_⟩
  rw [zoneTick_consumed_zone]
  generalize (zoneTick (consumed s)).tempA = tm
  generalize (zoneTick (consumed s)).roomHumidity = rh
  obtain ⟨hsettings, hup, hdown, hmode⟩ := s.zone.tick_frame (s.damper.fault || !s.damper.homed) tm rh
  refine ⟨?_, Zone.tick_eq_self, fun hc => ?_, hsettings, hup, hdown, hmode⟩
  · rw [Zone.tick_call]
    cases s.damper.fault || !s.damper.homed with
    | true => exact Zone.callAfterTick_blocked ..
    | false =>
      cases tm with
      | none => rfl
      | some t =>
        show nextCall s.zone.call s.zone.settings t rh = _
        cases s.zone.call with
        | none => simp only [nextCall, ZoneSetting.coolAllowed_eq, ZoneSetting.heatAllowed_eq, dryWanted_iff]
        | cool => simp only [nextCall, ZoneSetting.coolAllowed_eq, Bool.not_eq_true]
        | heat => simp only [nextCall, ZoneSetting.heatAllowed_eq, Bool.not_eq_true]
        | dry => simp only [nextCall, ZoneSetting.coolAllowed_eq, dryOver_iff, or_assoc, Bool.not_eq_true]
  · obtain ⟨hserved, hnone, hdry, hcool, hheat⟩ := Zone.tick_moved hc
    exact ⟨hserved, hnone, hdry, hcool, hheat⟩

end Sys2Proof.Machine

/-! SUPPORT and O48. The proposal by the three tests of R97: the freeze, the count down, and the wanted mode. -/

namespace Sys2Proof.Machine

/-! ### The modes by name (R102, R103) -/

theorem Mode.coolingSide_iff (m : Mode) : m.coolingSide = true ↔ m = .cool ∨ m = .dry := by
  cases m <;> decide

theorem Mode.active_iff (m : Mode) : m.active = true ↔ m = .cool ∨ m = .dry ∨ m = .heat := by
  cases m <;> decide

theorem Mode.active_false_iff (m : Mode) : m.active = false ↔ m = .off ∨ m = .fan := by
  cases m <;> decide

/-! ### The wanted mode (R100, R101) -/

/-- Step 4 of R101 with the two strict comparisons of calls side by side: what neither decides is COOL. -/
theorem chooseSide_eq (v : View) :
    chooseSide v =
      if v.peakh.toNat < v.peakc.toNat then .cool
      else if v.peakc.toNat < v.peakh.toNat then .heat
      else if v.nH < v.nC then .cool
      else if v.nC < v.nH then .heat
      else .cool := by
  unfold chooseSide
  obtain h | h | h := Nat.lt_trichotomy v.nC v.nH
  · simp only [h, Nat.lt_asymm h, if_true, if_false]
  · simp only [h, Nat.lt_irrefl, if_false]
  · simp only [h, Nat.lt_asymm h, if_true, if_false]

/-- R101 as one list of conditions: the mode held stays while its side still calls, DRY gives way to COOL, and otherwise
the side is chosen anew. -/
theorem wantedFromCalls_eq (m : Mode) (v : View) :
    wantedFromCalls m v =
      if v.nC + v.nH + v.nD = 0 then .off
      else if m = .cool ∧ 0 < v.nC then .cool
      else if m = .heat ∧ 0 < v.nH then .heat
      else if m = .dry ∧ 0 < v.nC then .cool
      else if m = .dry ∧ 0 < v.nD then .dry
      else chooseMode v := by
  cases m <;> simp [wantedFromCalls]

/-- While the plant is locked out or overflows the calls decide only between FAN and OFF (R100). -/
theorem wantedMode_eq (m : Mode) (v : View) (f : PlantFilter) :
    wantedMode m v f =
      if f.lockout.value = true ∨ f.overflow.value = true then
        (if v.nC + v.nH + v.nD = 0 then .off else .fan)
      else wantedFromCalls m v := by
  simp only [wantedMode, Bool.or_eq_true, Nat.pos_iff_ne_zero, ne_eq, ite_not]

/-! ### From the wanted mode to the proposal (R102, R103) -/

/-- The table of R102, its modes named. -/
theorem transition_eq (m w : Mode) :
    transition m w =
      if w = m then ⟨m, 0⟩
      else if (m = .cool ∨ m = .dry) ∧ w = .heat ∨ m = .heat ∧ (w = .cool ∨ w = .dry) then ⟨.off, 180⟩
      else if w = .off ∨ w = .fan then ⟨w, 0⟩
      else ⟨w, 300⟩ := by
  simp only [transition, Mode.coolingSide_iff, ← Mode.active_false_iff, ← Bool.not_eq_true, ite_not]

theorem warmupBlock_eq (warmup : Bool) (m : Mode) (p : Collective) :
    warmupBlock warmup m p =
      if warmup = true ∧ m = .off ∧ (p.mode = .cool ∨ p.mode = .dry ∨ p.mode = .heat) then ⟨.off, 0⟩ else p := by
  simp only [warmupBlock, Mode.active_iff, Collective.rest]

/-! ### The three tests of the proposal, the first that applies (R97) -/

/-- The freeze (R98). -/
theorem propose_of_holdover {v : View} (c : Collective) (f : PlantFilter) (hv : v.holdover = true) :
    propose c v f = c :=
  if_pos hv

/-- The count down (R99). -/
theorem propose_of_hold {c : Collective} {v : View} (f : PlantFilter) (hv : v.holdover = false) (hc : 0 < c.hold) :
    propose c v f = ⟨c.mode, c.hold - 1⟩ := by
  simp only [propose, hv, Bool.false_eq_true, if_false, if_pos hc]

/-- With no freeze and no hold the wanted mode is proposed, past the warm-up block (R100 to R103). -/
theorem propose_of_free {c : Collective} {v : View} (f : PlantFilter) (hv : v.holdover = false) (hc : c.hold = 0) :
    propose c v f = warmupBlock v.warmup c.mode (transition c.mode (wantedMode c.mode v f)) := by
  simp only [propose, hv, Bool.false_eq_true, if_false, hc, Nat.lt_irrefl]

/-- Rounds without HOLDOVER, each adopting the proposal of the round before, take one off the hold each while it lasts,
and keep the mode (R99). -/
theorem foldl_propose_of_hold (rounds : List (View × PlantFilter)) (c : Collective)
    (hv : ∀ x ∈ rounds, x.1.holdover = false) (hlen : rounds.length ≤ c.hold) :
    rounds.foldl (fun c x => propose c x.1 x.2) c = ⟨c.mode, c.hold - rounds.length⟩ := by
  induction rounds generalizing c with
  | nil => rfl
  | cons x xs ih =>
    obtain ⟨hx, hxs⟩ := List.forall_mem_cons.1 hv
    rw [List.length_cons] at hlen
    have hfirst : propose c x.1 x.2 = ⟨c.mode, c.hold - 1⟩ := propose_of_hold x.2 hx (by omega)
    have hrest : xs.length ≤ c.hold - 1 := by omega
    rw [List.foldl_cons, hfirst, ih ⟨c.mode, c.hold - 1⟩ hxs hrest, List.length_cons, Nat.sub_sub, Nat.add_comm 1]

/-- Settles O48: the three tests of R97 in their order, the run of a hold by induction on its rounds, and the wanted mode,
the table and the warm-up block put together. -/
theorem proposalFollowsHoldAndCalls : Obligations.ProposalFollowsHoldAndCalls := by
  refine ⟨fun c v f => ⟨propose_of_holdover c f, propose_of_hold f, fun rounds => foldl_propose_of_hold rounds c⟩,
    fun c v f hv hc => ?_⟩
  rw [propose_of_free f hv hc, warmupBlock_eq, transition_eq, wantedMode_eq, wantedFromCalls_eq, chooseMode,
    chooseSide_eq]
  rfl

end Sys2Proof.Machine


/-! SUPPORT for the invariants. The moves that every step is made of: each invariant is proved move by move, once. -/

namespace Sys2Proof.Machine

/-- The small moves of a station. Each carries the guard under which a command makes it, so far as an invariant needs the
guard; what a command lets pass or sets without one is left open. -/
inductive Move : State → State → Prop
  | time (n : Nat) (s : State) : Move s (elapse n s)
  | clocks (s : State) (t : Timers) (h : t.mark.running = true → s.timers.mark.running = true) :
      Move s { s with timers := t }
  | asserts (k : ResetKind) (r : ResetBlock) (s : State) : Move s (assertReset k { s with rst := r })
  | sources (s : State) (r : ResetBlock) (hs : r.state = s.rst.state) (ha : r.address = s.rst.address) :
      Move s { s with rst := r }
  | releases (s : State) : Move s (releaseReset s)
  | latches (a p : Nibble) (s : State) (h : s.rst.state = .settling) : Move s (latchStraps a p s)
  | level (s : State) (l : LineBlock) (hrx : l.rx = s.line.rx) (hp : l.permission = s.line.permission) :
      Move s { s with line := l }
  | marks (s : State) (h : s.mayDrive = true) : Move s (driveMark s)
  | leads (s : State) (h : s.health.link = .listen) :
      Move s
        { s with
          asm := { s.asm with index := 15 }, health := { s.health with link := .joined, badRun := 0 },
          coll := ⟨.rest, .rest⟩ }
  | syncs (s : State) (h : s.receives = true) : Move s { s with line := { s.line with rx := .syncSeen } }
  | reads (s : State) (l : LineBlock) (check : BitVec 12) (mark : Bool) (h : s.line.rx.inRound = true)
      (hrx : l.rx.inRound = false) (hp : l.permission = s.line.permission) :
      Move s
        { s with line := l, health := { s.health with check := check, clashMark := mark, candidate := none } }
  | starts (s : State) (h : s.line.rx = .syncSeen) :
      Move s
        { s with
          line := s.line.start s.mayDrive
          asm := { s.asm with image := if s.mayDrive then some s.roundImage else none }
          health := s.health.start
          dir := { s.dir with reply := if s.mayDrive then none else s.dir.reply } }
  | roleStarts (s : State) : Move s (roleRoundStart s)
  | decides (v : Verdict) (w : View) (s : State) : Move s (decideRound v w s)
  | isolates (clash : Bool) (s : State) (h : s.decides = true) : Move s (enterIsolated clash s)
  | counts (s : State) (link : LinkState) (badRun joining : Nat)
      (h : (s.health.link = .listen ∧ link = .listen ∧ badRun = s.health.badRun ∧ joining < 8) ∨
        (s.health.link = .joined ∧ link = .joined ∧ badRun = s.health.badRun + 1 ∧ badRun < 4 ∧
          joining = s.health.joining) ∨
        (s.health.link = .joined ∧ link = .holdover ∧ badRun = s.health.badRun + 1 ∧ 4 ≤ badRun ∧
          joining = s.health.joining) ∨
        (s.health.link = .holdover ∧ link = .holdover ∧ badRun = s.health.badRun + 1 ∧ badRun < 30 ∧
          joining = s.health.joining)) :
      Move s (s.counted link badRun joining)
  | joins (s : State) (joining : Nat) (index : Nibble) (h : s.decides = true) (hj : joining ≤ s.health.joining) :
      Move s (s.joinedAt joining index)
  | adopts (s : State) (v : View) (f : PlantFilter) : Move s { s with coll := s.coll.round v f }
  | tracks (s : State) (field : Option Directive) :
      Move s { s with dir := { s.dir with tracker := s.dir.tracker.update field } }
  | replies (s : State) (r : Option Reply) : Move s { s with dir := { s.dir with reply := r } }
  | executes (d : Directive) (s : State) (h : s.health.link = .joined) : Move s (execute d s)
  | roleRounds (z : Settings) (s : State) : Move s (roleRound z s)
  | listens (s : State) (h : s.health.link = .isolated) (hc : s.health.addressClash = false) : Move s (enterListen s)
  | consumes (s : State) : Move s (consumeChannels s)
  | roleTicks (s : State) (h : s.rst.state = .checked) : Move s (roleTick s)
  | captures (s : State) (ch : Channel) (x : Capture) (hr : x.c.ring = (s.capture ch).c.ring)
      (hm : x.c.misses = (s.capture ch).c.misses) : Move s (s.withCapture ch x)
  | upKey (l : Bool) (s : State) : Move s (sampleUp l s)
  | downKey (l : Bool) (s : State) : Move s (sampleDown l s)
  | modeKey (l : Bool) (s : State) : Move s (sampleMode l s)
  | offers (s : State) (es : List QueueEntry) (h : ∀ e ∈ es, e.wins < 3 ∧ e.age < 16) :
      Move s { s with dir := { s.dir with queue := offer s.mayDrive es s.dir.queue } }
  | pulses (s : State) : Move s (s.withMotor s.motor.pulse)
  | stalls (s : State) : Move s (s.withMotor s.motor.stalled)
  | pauseEnds (s : State) (h : s.damper.machine = .pause) : Move s (s.withMotor s.motor.pauseEnd)
  | retryEnds (s : State) (h : s.damper.machine = .retry) : Move s (s.withMotor s.motor.retryEnd)
  | homingFails (s : State) (h : s.damper.seeking = true) : Move s (s.withMotor s.motor.homingFailed)
  | tripSamples (b : Bool) (s : State) : Move s (takeTripSample b s)
  | periods (c : PwmChannel) (s : State) : Move s (endPeriod c s)
  | bridges (dead : Timer) (s : State) :
      Move s { s with out := { s.out with bridge := s.out.bridge.periodStart dead } }
  | intervals (l : Load) (s : State) : Move s (endInterval l s)
  | blinks (s : State) (lit : Bool) : Move s { s with out := { s.out with blinkLit := lit } }

/-- A chain of moves. -/
abbrev Moves : State → State → Prop := Relation.ReflTransGen Move

theorem Move.moves {s t : State} (h : Move s t) : Moves s t := .single h

/-- What every move keeps, every chain of moves keeps. -/
theorem Moves.keeps {P : State → Prop} (hP : ∀ {s t}, Move s t → P s → P t) {s t : State} (h : Moves s t)
    (hs : P s) : P t := by
  induction h with
  | refl => exact hs
  | tail _ hm ih => exact hP hm ih

/-! ### The larger operations as chains of moves -/

theorem elapse_mark {n : Nat} {s : State} : (s.timers.elapse n).mark.running = s.timers.mark.running := by
  simp only [Timers.elapse, Timer.elapse]
  split
  · next h => exact h.symm
  · rfl

theorem elapseTo_moves (t : Timer) (limit : Nat) (s : State) : Moves s (elapseTo t limit s) := (Move.time _ s).moves

theorem paExpiry_moves {s : State} (h : s.mayDrive = true) : Moves s (paExpiry s) := by
  unfold paExpiry
  split
  · exact (Move.level s { s.line with pace := .deferred } rfl rfl).moves
  · exact (Move.marks s h).moves

theorem lonePacer_moves {s : State} (h : s.health.link = .listen) : Moves s (lonePacer s) := by
  have hlead := Move.leads s h
  have hclock := hlead.moves.tail (.clocks _ { s.timers with round := ⟨true, s.paUs⟩ } id)
  exact (hclock.tail (.level _ { s.line with silenceWaits := false } rfl rfl)).trans (paExpiry_moves rfl)

theorem runEnds_moves (s : State) : Moves s (runEnds s) :=
  (Move.level s { s.line with dominant := false, framing := _ } rfl rfl).moves.tail
    (.clocks _ { s.timers with run := .stopped } id)

theorem afterNoise_moves (s : State) : Moves s (afterNoise s) := by
  unfold afterNoise
  split_ifs with h1 h2
  · exact (Move.marks s h1.2).moves
  · exact lonePacer_moves h2.2
  · exact .refl

/-- The directive unit's work at an accepted round of a JOINED station (R176 to R178). -/
theorem directiveRound_moves {s : State} (h : s.health.link = .joined) : Moves s (directiveRound s) := by
  obtain ⟨hn, hs⟩ | ⟨d, hd, hs | ⟨-, -, -, hs⟩⟩ := directiveRound_cases s <;> rw [hs]
  · exact (Move.tracks s none).moves.tail (.replies _ none)
  · exact (Move.tracks s (some d)).moves.tail (.replies _ _)
  · exact ((Move.tracks s (some d)).moves.tail (.executes d _ h)).tail (.replies _ _)

theorem handOn_moves {s : State} (h : s.health.link = .joined) : Moves s (handOn s) :=
  ((Move.adopts s _ _).moves.trans (directiveRound_moves (by exact h))).tail (.roleRounds _ _)

/-- A decision is the acceptance block's work, and then one of the outcomes of the link state machine (R37). -/
theorem takeDecision_moves (v : Verdict) (w : View) (s : State) : Moves s (takeDecision v w s) := by
  have hdec := (Move.decides v w s).moves
  have hkeep : (decideRound v w s).decides = s.decides := rfl
  obtain ⟨-, ht⟩ | ⟨hd, -, ht⟩ | ⟨hl, -, -, ht⟩ | ⟨hd, -, -, j, i, hj, ht⟩ | ⟨l, b, j, ht, hc⟩ :=
    takeDecision_cases v w s
  · rw [ht]
  · exact ht ▸ hdec.tail (.isolates true _ (hkeep.trans hd))
  · exact ht ▸ hdec.tail (.isolates false _ (by rw [hkeep, State.decides, hl]))
  · exact ht ▸ (hdec.tail (.joins _ j i (hkeep.trans hd) hj)).trans (handOn_moves rfl)
  · exact ht ▸ hdec.tail (.counts _ l b j hc)

theorem windowEnd_moves (w : Window) {s : State} (h : s.line.rx.inRound = true) : Moves s (windowEnd w s) := by
  unfold windowEnd
  refine .trans (.single (.reads s _ _ _ h ?_ ?_)) (takeDecision_moves _ _ _)
  · rfl
  · exact LineBlock.read_permission ..

theorem cutShort_moves (data : RoundBits) {s : State} (h : s.line.rx.inRound = true) : Moves s (cutShort data s) := by
  unfold cutShort
  refine .trans (.single (.reads s _ _ _ h ?_ ?_)) (takeDecision_moves _ _ _)
  · rfl
  · exact LineBlock.read_permission ..

theorem roundStart_moves {s : State} (h : s.line.rx = .syncSeen) : Moves s (roundStart s) :=
  ((Move.starts s h).moves.tail (.clocks _ { s.timers with round := .started, run := .stopped } id)).tail
    (.roleStarts _)

theorem toSecond_moves (s : State) : Moves s (toSecond s) :=
  (elapseTo_moves s.timers.second _ s).tail (.clocks _ { (elapseTo s.timers.second _ s).timers with second := .started } id)

theorem secondTick_moves (s : State) : Moves s (secondTick s) := by
  unfold secondTick
  split_ifs with h1 h2
  · exact ((toSecond_moves s).tail (.consumes _)).tail (.roleTicks _ (of_decide_eq_true h2))
  · exact toSecond_moves s
  · exact .refl

theorem secondTickFor_moves (c : Bool) (s : State) : Moves s (secondTickFor c s) := by
  unfold secondTickFor
  split
  · exact secondTick_moves s
  · exact .refl

theorem sampleKeys_moves (x : KeySample) (s : State) : Moves s (sampleKeys x s) := by
  have hto : Moves s (toKeySample s) :=
    (elapseTo_moves s.timers.keyClock _ s).tail
      (.clocks _ { (elapseTo s.timers.keyClock _ s).timers with keyClock := .started } id)
  unfold sampleKeys
  dsimp only
  split
  · exact ((hto.tail (.downKey _ _)).tail (.upKey _ _)).tail (.modeKey _ _)
  · exact ((hto.tail (.upKey _ _)).tail (.downKey _ _)).tail (.modeKey _ _)

theorem takeSupplySample_moves (mv : Nat) (s : State) : Moves s (takeSupplySample mv s) := by
  unfold takeSupplySample
  split_ifs
  · exact (Move.sources s _ (by rfl) (by rfl)).moves.tail (.releases _)
  · exact .refl
  · exact (Move.asserts .supply { s.rst with monitor := true, lowCount := 4 } s).moves
  · exact (Move.sources s _ (by rfl) (by rfl)).moves
  · exact (Move.sources s _ (by rfl) (by rfl)).moves

theorem supplySample_moves (mv : Nat) (s : State) : Moves s (supplySample mv s) :=
  ((elapseTo_moves s.timers.supplyClock _ s).tail
    (.clocks _ { (elapseTo s.timers.supplyClock _ s).timers with supplyClock := .started } id)).trans
      (takeSupplySample_moves mv _)

theorem tripSample_moves (b : Bool) (s : State) : Moves s (tripSample b s) :=
  ((elapseTo_moves s.timers.tripClock _ s).tail
    (.clocks _ { (elapseTo s.timers.tripClock _ s).timers with tripClock := .started } id)).tail (.tripSamples _ _)

theorem runDirective_moves (c : Code) (src dst : Nibble) (arg : Byte) (s : State) :
    Moves s (runDirective c src dst arg s) := by
  unfold runDirective
  dsimp only
  split
  · next h => exact (Move.executes _ s h.1).moves.tail (.replies _ _)
  · exact .refl

theorem rise_ring (x : Capture) : x.rise.c.ring = x.c.ring ∧ x.rise.c.misses = x.c.misses := by
  unfold Capture.rise Capture.begin Capture.latch
  (repeat' split) <;> exact ⟨rfl, rfl⟩

theorem fall_ring (x : Capture) : x.fall.c.ring = x.c.ring ∧ x.fall.c.misses = x.c.misses := by
  unfold Capture.fall Capture.await
  (repeat' split) <;> exact ⟨rfl, rfl⟩

end Sys2Proof.Machine

namespace Sys2Proof.Machine

/-! ### Every command as a chain of moves -/

/-- A command that makes its moves under a guard, and changes nothing elsewhere. -/
theorem Moves.guarded {p : Prop} [Decidable p] {s t : State} (h : p → Moves s t) : Moves s (if p then t else s) := by
  split
  · next hp => exact h hp
  · exact .refl

theorem chordReset_moves {s : State} :
    Moves s
      (let s1 := elapseTo s.timers.chord Config.chordUs s
      assertReset .pin
        { s1 with rst := { s1.rst with chord := true }, timers := { s1.timers with chordHold := .started } }) :=
  ((elapseTo_moves s.timers.chord Config.chordUs s).tail
    (.clocks _ { (elapseTo s.timers.chord Config.chordUs s).timers with chordHold := .started } id)).tail
      (.asserts .pin { s.rst with chord := true } _)

theorem chordResetRelease_moves {s : State} :
    Moves s
      (let s1 := elapseTo s.timers.chordHold Config.chordHoldUs s
      releaseReset
        { s1 with rst := { s1.rst with chord := false }, timers := { s1.timers with chordHold := .stopped } }) :=
  (((elapseTo_moves s.timers.chordHold Config.chordHoldUs s).tail
    (.clocks _ { (elapseTo s.timers.chordHold Config.chordHoldUs s).timers with chordHold := .stopped } id)).tail
      (.sources _ { s.rst with chord := false } rfl rfl)).tail (.releases _)

theorem execNoiseRunEnd_moves {n : Nat} {s t : State} (h : execNoiseRunEnd n s = .next t) : Moves s t := by
  cases h
  refine .guarded fun _ => ?_
  split_ifs
  · exact .refl
  · exact ((elapseTo_moves ..).trans (runEnds_moves _)).trans (afterNoise_moves _)
  · exact (Move.level s { s.line with dominant := false } rfl rfl).moves

theorem execSyncRecognised_moves {data : RoundBits} {frame : FrameLevels} {s t : State}
    (h : execSyncRecognised data frame s = .next t) : Moves s t := by
  cases h
  refine .guarded fun hg => ?_
  dsimp only
  split_ifs with hr
  · exact (elapseTo_moves ..).trans (cutShort_moves data hr)
  · exact (elapseTo_moves s.timers.run _ s).tail (.syncs _ hg.1)

theorem execSilenceEvent_moves {s t : State} (h : execSilenceEvent s = .next t) : Moves s t := by
  cases h
  refine .guarded fun hl => ?_
  dsimp only
  split_ifs
  · exact (elapseTo_moves s.timers.round _ s).tail (.level _ { (elapseTo _ _ s).line with silenceWaits := true } rfl rfl)
  · exact (elapseTo_moves ..).trans (lonePacer_moves hl)

/-- Every command is a chain of moves. -/
theorem exec_moves {c : Instr} {s t : State} (h : exec c s = .next t) : Moves s t := by
  cases c with
  | noiseRunEnd n => exact execNoiseRunEnd_moves h
  | syncRecognised data frame => exact execSyncRecognised_moves (frame := frame) h
  | silenceEvent => exact execSilenceEvent_moves h
  | powerOn =>
    cases h
    exact (Move.clocks s { s.timers with supplyClock := .started, chordHold := .stopped } id).moves.tail
      (.asserts .supply { s.rst with powerOn := true, monitor := false, chord := false, lowCount := 0 } _)
  | supplySample mv => cases h; exact supplySample_moves mv s
  | supplyMonitorReset => cases h; exact .guarded fun _ => supplySample_moves _ s
  | supplyMonitorRelease => cases h; exact .guarded fun _ => supplySample_moves _ s
  | resetPinLow =>
    cases h
    split_ifs
    · exact .refl
    · exact (Move.asserts .pin { s.rst with pin := true } s).moves
  | resetPinHigh =>
    cases h; exact .guarded fun _ => (Move.sources s { s.rst with pin := false } rfl rfl).moves.tail (.releases _)
  | chordReset => cases h; exact .guarded fun _ => chordReset_moves
  | chordResetRelease => cases h; exact .guarded fun _ => chordResetRelease_moves
  | settleTimer a p => cases h; exact .guarded fun hs => (elapseTo_moves ..).tail (.latches a p _ hs)
  | roundTimerPa => cases h; exact .guarded fun hd => (elapseTo_moves ..).trans (paExpiry_moves hd.1)
  | syncMarkRelease =>
    cases h
    exact .guarded fun _ => (elapseTo_moves s.timers.mark _ s).tail
      (.clocks _ { (elapseTo s.timers.mark _ s).timers with mark := .stopped } nofun)
  | roundStart => cases h; exact .guarded fun hs => roundStart_moves hs
  | roundEnd w =>
    cases h
    exact .guarded fun hr => (elapseTo_moves ..).trans (windowEnd_moves w ((elapseTo_inRound ..).trans hr))
  | missingRound =>
    cases h
    exact .guarded fun _ =>
      (((elapseTo_moves s.timers.round _ s).tail
        (.level _ { (elapseTo s.timers.round _ s).line with pace := .ahead } rfl rfl)).tail
          (.clocks _ { (elapseTo s.timers.round _ s).timers with round := .started } id)).trans (takeDecision_moves ..)
  | isolationTimerExpiry =>
    cases h
    exact .guarded fun hg => (elapseTo_moves ..).tail (.listens _ hg.1 (Bool.not_eq_true _ ▸ hg.2.2))
  | setCool src dst arg => cases h; exact runDirective_moves ..
  | setHeat src dst arg => cases h; exact runDirective_moves ..
  | setHumid src dst arg => cases h; exact runDirective_moves ..
  | zoneSet src dst arg => cases h; exact runDirective_moves ..
  | read src dst arg => cases h; exact runDirective_moves ..
  | testDamper src dst arg => cases h; exact runDirective_moves ..
  | testBlower src dst arg => cases h; exact runDirective_moves ..
  | testSpeed src dst arg => cases h; exact runDirective_moves ..
  | forceDefrost src dst arg => cases h; exact runDirective_moves ..
  | corruptCheck src dst arg => cases h; exact runDirective_moves ..
  | muteCount src dst arg => cases h; exact runDirective_moves ..
  | clearTrip src dst arg => cases h; exact runDirective_moves ..
  | normal src dst arg => cases h; exact runDirective_moves ..
  | secondTick => cases h; exact secondTick_moves s
  | ringEmptied ch => cases h; exact secondTickFor_moves ..
  | coldBlowHoldEnd => cases h; exact secondTickFor_moves ..
  | coilFrostChange => cases h; exact secondTickFor_moves ..
  | supplyHotChange => cases h; exact secondTickFor_moves ..
  | auxHeatOn => cases h; exact secondTickFor_moves ..
  | normalStop => cases h; exact secondTickFor_moves ..
  | frostStop => cases h; exact secondTickFor_moves ..
  | minOffEnd => cases h; exact secondTickFor_moves ..
  | defrostEntry => cases h; exact secondTickFor_moves ..
  | defrostEnd => cases h; exact secondTickFor_moves ..
  | dripEnd => cases h; exact secondTickFor_moves ..
  | tripAgeExpiry => cases h; exact secondTickFor_moves ..
  | captureRisingEdge ch n =>
    cases h
    split_ifs
    · exact .refl
    · exact (Move.time n s).moves.tail (.captures _ ch _ (rise_ring _).1 (rise_ring _).2)
  | captureFallingEdge ch n =>
    cases h
    split_ifs
    · exact .refl
    · exact (Move.time n s).moves.tail (.captures _ ch _ (fall_ring _).1 (fall_ring _).2)
  | periodAbandoned ch => cases h; exact .guarded fun _ => (elapseTo_moves ..).tail (.captures _ ch _ rfl rfl)
  | keySample x => cases h; exact .guarded fun _ => sampleKeys_moves ..
  | keyPress k x => cases h; exact .guarded fun _ => sampleKeys_moves ..
  | keyRelease k x => cases h; exact .guarded fun _ => sampleKeys_moves ..
  | modePressRecognition x => cases h; exact .guarded fun _ => sampleKeys_moves ..
  | modeShortPress x => cases h; exact .guarded fun _ => sampleKeys_moves ..
  | modeLongPress =>
    cases h
    exact .guarded fun _ =>
      ((elapseTo_moves s.timers.modeHold _ s).tail (.offers _ (longPressEntries s.zone.settings) (by simp [longPressEntries]))).tail
        (.clocks _ { (elapseTo s.timers.modeHold _ s).timers with modeHold := .stopped } id)
  | damperPulse => cases h; exact .guarded fun _ => (Move.pulses s).moves
  | stall => cases h; exact .guarded fun _ => (elapseTo_moves ..).tail (.stalls _)
  | pauseEnd => cases h; exact .guarded fun hm => (elapseTo_moves ..).tail (.pauseEnds _ hm)
  | retryEnd => cases h; exact .guarded fun hm => (elapseTo_moves ..).tail (.retryEnds _ hm)
  | homingTimeout => cases h; exact .guarded fun hm => (elapseTo_moves ..).tail (.homingFails _ hm)
  | tripInputSample high => cases h; exact .guarded fun _ => tripSample_moves ..
  | tripFilterChange => cases h; exact .guarded fun _ => tripSample_moves ..
  | pwmPeriodEnd ch => cases h; exact .guarded fun _ => (elapseTo_moves ..).tail (.periods ch _)
  | hbridgePeriodStart =>
    cases h
    exact .guarded fun _ =>
      ((elapseTo_moves s.timers.bridge _ s).tail (.bridges (elapseTo s.timers.bridge Config.periodUs s).timers.bridgeDead _)).tail
        (.clocks _ { (elapseTo s.timers.bridge _ s).timers with bridge := .started } id)
  | switchedIntervalEnd l => cases h; exact (elapseTo_moves ..).tail (.intervals l _)
  | blinkClock =>
    cases h
    exact .guarded fun _ =>
      ((elapseTo_moves s.timers.blink _ s).tail (.blinks _ (!s.out.blinkLit))).tail
        (.clocks _ { (elapseTo s.timers.blink _ s).timers with blink := .started } id)
  | dominantRunLeadingEdge =>
    cases h
    by_cases hd : s.line.dominant
    · rw [if_pos hd]
    · rw [if_neg hd]
      exact (Move.level s { s.line with dominant := true } rfl rfl).moves.tail
        (.clocks _ { s.timers with run := if s.receives then .started else s.timers.run } id)

/-- What every move keeps is kept by every step, if it does not speak of the commands that wait. -/
theorem step_keeps {P : State → Prop} (hP : ∀ {s t}, Move s t → P s → P t)
    (hq : ∀ s q, P s → P { s with pending := q }) {s t : State} (hs : P s) (h : step s = .next t) : P t := by
  unfold step at h
  split at h
  · cases h
    exact hP (.time 1 s) hs
  · exact (exec_moves h).keeps hP (hq s _ hs)

end Sys2Proof.Machine

namespace Sys2Proof.Machine
/-! ### What the moves leave unchanged -/

@[simp] theorem counted_rst (s : State) (l : LinkState) (b j : Nat) : (s.counted l b j).rst = s.rst := rfl
@[simp] theorem counted_line (s : State) (l : LinkState) (b j : Nat) : (s.counted l b j).line = s.line := rfl
@[simp] theorem counted_asm (s : State) (l : LinkState) (b j : Nat) : (s.counted l b j).asm = s.asm := rfl
@[simp] theorem counted_meas (s : State) (l : LinkState) (b j : Nat) : (s.counted l b j).meas = s.meas := rfl
@[simp] theorem counted_coll (s : State) (l : LinkState) (b j : Nat) : (s.counted l b j).coll = s.coll := rfl
@[simp] theorem counted_zone (s : State) (l : LinkState) (b j : Nat) : (s.counted l b j).zone = s.zone := rfl
@[simp] theorem counted_damper (s : State) (l : LinkState) (b j : Nat) : (s.counted l b j).damper = s.damper := rfl
@[simp] theorem counted_handler (s : State) (l : LinkState) (b j : Nat) : (s.counted l b j).handler = s.handler := rfl
@[simp] theorem counted_outdoor (s : State) (l : LinkState) (b j : Nat) : (s.counted l b j).outdoor = s.outdoor := rfl
@[simp] theorem counted_out (s : State) (l : LinkState) (b j : Nat) : (s.counted l b j).out = s.out := rfl
@[simp] theorem counted_dir (s : State) (l : LinkState) (b j : Nat) : (s.counted l b j).dir = s.dir := rfl
@[simp] theorem counted_timers (s : State) (l : LinkState) (b j : Nat) : (s.counted l b j).timers = s.timers := rfl
@[simp] theorem joinedAt_rst (s : State) (j : Nat) (i : Nibble) : (s.joinedAt j i).rst = s.rst := rfl
@[simp] theorem joinedAt_line (s : State) (j : Nat) (i : Nibble) : (s.joinedAt j i).line = s.line := rfl
@[simp] theorem joinedAt_image (s : State) (j : Nat) (i : Nibble) : (s.joinedAt j i).asm.image = s.asm.image := rfl
@[simp] theorem joinedAt_meas (s : State) (j : Nat) (i : Nibble) : (s.joinedAt j i).meas = s.meas := rfl
@[simp] theorem joinedAt_coll (s : State) (j : Nat) (i : Nibble) : (s.joinedAt j i).coll = s.coll := rfl
@[simp] theorem joinedAt_zone (s : State) (j : Nat) (i : Nibble) : (s.joinedAt j i).zone = s.zone := rfl
@[simp] theorem joinedAt_damper (s : State) (j : Nat) (i : Nibble) : (s.joinedAt j i).damper = s.damper := rfl
@[simp] theorem joinedAt_handler (s : State) (j : Nat) (i : Nibble) : (s.joinedAt j i).handler = s.handler := rfl
@[simp] theorem joinedAt_outdoor (s : State) (j : Nat) (i : Nibble) : (s.joinedAt j i).outdoor = s.outdoor := rfl
@[simp] theorem joinedAt_out (s : State) (j : Nat) (i : Nibble) : (s.joinedAt j i).out = s.out := rfl
@[simp] theorem joinedAt_dir (s : State) (j : Nat) (i : Nibble) : (s.joinedAt j i).dir = s.dir := rfl
@[simp] theorem joinedAt_timers (s : State) (j : Nat) (i : Nibble) : (s.joinedAt j i).timers = s.timers := rfl

/-- What the execution of a directive leaves is the directive carried out, with the tracker set: an accepted code's
effect, or the station as it was (R177). -/
theorem carryOut_cases (d : Directive) (s : State) :
    (carryOut d s).1 = s ∨ ∃ c, acceptedCode s.role d = some c ∧ (carryOut d s).1 = (c.effect d.arg s).1 := by
  unfold carryOut
  split
  · next c hc => exact .inr ⟨c, hc, rfl⟩
  · exact .inl rfl

/-- The straps that latch leave the zone as it was, but not served (R86, R187). -/
theorem latchStraps_zone (a p : Nibble) (s : State) :
    (latchStraps a p s).zone = if strapsPass a p then { s.zone with served := false } else s.zone := by
  unfold latchStraps
  dsimp only
  split <;> simp [enterListen]

theorem enterIsolated_zone (clash : Bool) (s : State) :
    (enterIsolated clash s).zone = { s.zone with served := false } := roleSafe_zone _

/-- The release of a reset decides on the settings by the kind of the reset (R77). -/
theorem releaseReset_zone (s : State) :
    (releaseReset s).zone = s.zone ∨ (releaseReset s).zone = { s.zone with settings := .default } := by
  unfold releaseReset kindValues
  split_ifs
  · split
    · exact .inr rfl
    · exact .inl rfl
  · exact .inl rfl

/-! ### The settings (R74) -/

/-- A directive's effect changes no part of the zone but the settings, and those along the settings path (R76). -/
theorem codeEffect_zone (c : Code) (arg : Byte) (s : State) :
    ∃ z, (c.effect arg s).1.zone = { s.zone with settings := z } ∧ (s.zone.settings.Sound → z.Sound) := by
  cases c with
  | setCool => exact ⟨_, rfl, fun h => setSc_sound h _⟩
  | setHeat => exact ⟨_, rfl, fun h => setSh_sound h _⟩
  | setHumid => exact ⟨_, rfl, fun h => setHl_sound h _⟩
  | zoneSet =>
    simp only [Code.effect, effectZoneSet]
    split
    · exact ⟨_, rfl, fun h => setSetting_sound h _⟩
    · exact ⟨_, rfl, id⟩
  | testDamper => exact ⟨_, rehome_zone s, id⟩
  | forceDefrost =>
    simp only [Code.effect, effectForceDefrost]
    split <;> exact ⟨_, rfl, id⟩
  | _ => exact ⟨_, rfl, id⟩

theorem execute_zone (d : Directive) (s : State) :
    ∃ z, (execute d s).zone = { s.zone with settings := z } ∧ (s.zone.settings.Sound → z.Sound) := by
  show ∃ z, (carryOut d s).1.zone = _ ∧ _
  obtain h | ⟨c, -, h⟩ := carryOut_cases d s <;> rw [h]
  · exact ⟨_, rfl, id⟩
  · exact codeEffect_zone c d.arg s

/-- The settings change only along the settings path (R74). -/
theorem Move.keeps_settings {s t : State} (m : Move s t) (h : s.zone.settings.Sound) : t.zone.settings.Sound := by
  cases m with
  | releases => obtain e | e := releaseReset_zone s <;> rw [e] <;> [exact h; exact default_sound]
  | latches => rw [latchStraps_zone]; split <;> exact h
  | executes d =>
    obtain ⟨z, e, hz⟩ := execute_zone d s
    rw [e]; exact hz h
  | upKey =>
    dsimp only [sampleUp]
    split_ifs
    · exact pressUp_sound h
    · exact h
  | downKey =>
    dsimp only [sampleDown]
    split_ifs
    · exact pressDown_sound h
    · exact h
  | modeKey =>
    dsimp only [sampleMode]
    split_ifs
    · exact setSetting_sound h _
    · exact h
  | _ => simpa using h

/-- Settles O52: every move of a step keeps the settings sound. -/
theorem settingsStaySound : Obligations.SettingsStaySound := fun _ _ =>
  step_keeps (P := fun s => s.zone.settings.Sound) Move.keeps_settings fun _ _ => id

/-! ### The rings (R65 to R68) -/

theorem capture_sound_of_eq {c c' : CaptureChannel} (h : c.Sound) (hr : c'.ring = c.ring) (hm : c'.misses = c.misses) :
    c'.Sound := by
  obtain ⟨h1, h2, h3, h4⟩ := h
  exact ⟨hr ▸ h1, hm ▸ h2, by rw [hr, hm]; exact h3, hr ▸ h4⟩

/-- The rings of both channels are sound. -/
def Measurement.Sound (m : Measurement) : Prop := m.a.Sound ∧ m.b.Sound

theorem reset_meas_sound : Measurement.atReset.Sound := by
  simp [Measurement.Sound, Measurement.atReset, CaptureChannel.Sound, CaptureChannel.atReset]

/-- The straps that latch start the channels, and leave rings and miss counts (R72). -/
theorem latchStraps_meas (a p : Nibble) (s : State) :
    (latchStraps a p s).meas =
      if strapsPass a p then ⟨{ s.meas.a with state := .waitEdge }, { s.meas.b with state := .waitEdge }⟩ else s.meas := by
  unfold latchStraps
  dsimp only
  split <;> simp [startMeasurement]

theorem Move.keeps_rings {s t : State} (m : Move s t) (h : s.meas.Sound) : t.meas.Sound := by
  obtain ⟨ha, hb⟩ := id h
  cases m with
  | asserts => exact reset_meas_sound
  | latches =>
    rw [latchStraps_meas]
    split
    · exact ⟨ha, hb⟩
    · exact h
  | executes => simpa using h
  | consumes => exact ⟨consume_sound ha fun _ _ _ => tempSample_le, consume_sound hb (sampleB_le _)⟩
  | captures _ ch x hr hm =>
    cases ch with
    | a => exact ⟨capture_sound_of_eq ha hr hm, hb⟩
    | b => exact ⟨ha, capture_sound_of_eq hb hr hm⟩
  | _ => simpa using h

/-- Settles O59: only the consumption of a channel and a reset reach the rings and the miss counts. -/
theorem ringsStaySound : Obligations.RingsStaySound := fun _ _ =>
  step_keeps (P := fun s => s.meas.Sound) Move.keeps_rings fun _ _ => id

/-! ### The demand (R85 to R89) -/

/-- A zone with the call, the accumulator and the demand of a sound one, served at most where that one was. -/
theorem zone_sound_of_eq {z z' : Zone} (h : z.Sound) (hc : z'.call = z.call) (ha : z'.a = z.a) (hd : z'.d = z.d)
    (hs : z'.served = z.served ∨ z'.served = false) : z'.Sound := by
  obtain ⟨h1, h2, h3⟩ := h
  refine ⟨ha ▸ h1, by rw [hc, hd]; exact h2, fun hn => ?_⟩
  exact hs.elim (fun e => e.trans (h3 (hc ▸ hn))) id

theorem Move.keeps_demand {s t : State} (m : Move s t) (h : s.zone.Sound) : t.zone.Sound := by
  cases m with
  | asserts => exact reset_zone_sound _
  | releases => obtain e | e := releaseReset_zone s <;> rw [e] <;> exact h
  | latches =>
    rw [latchStraps_zone]
    split
    · exact zone_sound_of_eq h rfl rfl rfl (.inr rfl)
    · exact h
  | listens => exact zone_sound_of_eq h rfl rfl rfl (.inr rfl)
  | isolates => rw [enterIsolated_zone]; exact zone_sound_of_eq h rfl rfl rfl (.inr rfl)
  | executes d =>
    obtain ⟨z, e, -⟩ := execute_zone d s
    rw [e]; exact h
  | roleRounds =>
    unfold roleRound
    split
    · exact zone_round_sound h _ _ _ _ _ _
    · exact h
    · exact h
    · exact h
  | roleTicks =>
    unfold roleTick
    split
    · exact zone_tick_sound h _ _ _
    · exact h
    · exact h
    · exact h
  | upKey => exact h
  | downKey => exact h
  | modeKey => exact h
  | _ => simpa using h

/-- Settles O56: only the call machine, an accepted round and a reset reach the call, the accumulator and the demand. -/
theorem demandStaysInRange : Obligations.DemandStaysInRange := fun _ _ =>
  step_keeps (P := fun s => s.zone.Sound) Move.keeps_demand fun _ _ => id

end Sys2Proof.Machine

namespace Sys2Proof.Machine
/-! SUPPORT, O54 and O53. -/

/-! ### The counts and the holds (R25, R44, R47, R49, R51, R95) -/

/-- A directive's effect leaves the acceptance block but for the error counts, which it may clear (R44). -/
theorem codeEffect_health (c : Code) (arg : Byte) (s : State) :
    ∃ n f, (c.effect arg s).1.health = { s.health with nearEnd := n, farEnd := f } ∧
      (n = s.health.nearEnd ∨ n = 0) ∧ (f = s.health.farEnd ∨ f = 0) := by
  cases c with
  | read =>
    refine ⟨_, _, rfl, ?_, ?_⟩ <;> split_ifs <;> simp
  | zoneSet =>
    simp only [Code.effect, effectZoneSet]
    split <;> exact ⟨_, _, rfl, .inl rfl, .inl rfl⟩
  | testDamper => exact ⟨_, _, rehome_health s, .inl rfl, .inl rfl⟩
  | forceDefrost =>
    simp only [Code.effect, effectForceDefrost]
    split <;> exact ⟨_, _, rfl, .inl rfl, .inl rfl⟩
  | _ => exact ⟨_, _, rfl, .inl rfl, .inl rfl⟩

theorem execute_health (d : Directive) (s : State) :
    ∃ n f, (execute d s).health = { s.health with nearEnd := n, farEnd := f } ∧
      (n = s.health.nearEnd ∨ n = 0) ∧ (f = s.health.farEnd ∨ f = 0) := by
  show ∃ n f, (carryOut d s).1.health = _ ∧ _
  obtain h | ⟨c, -, h⟩ := carryOut_cases d s <;> rw [h]
  · exact ⟨_, _, rfl, .inl rfl, .inl rfl⟩
  · exact codeEffect_health c d.arg s

theorem latchStraps_health (a p : Nibble) (s : State) :
    (latchStraps a p s).health = if strapsPass a p then s.health.toListen else s.health := by
  unfold latchStraps
  dsimp only
  split <;> simp [enterListen]

theorem enterIsolated_health (clash : Bool) (s : State) :
    (enterIsolated clash s).health = s.health.isolate clash := roleSafe_health _

theorem enterIsolated_coll (clash : Bool) (s : State) : (enterIsolated clash s).coll = ⟨.rest, .rest⟩ := roleSafe_coll _

theorem countUp_le (n : Nat) : countUp n ≤ 255 := Nat.min_le_left ..

/-- The acceptance block's work at a decision keeps the counts, which saturate (R42, R43, R47). -/
theorem decided_countsSound {h : Health} (hs : h.CountsSound) (v : Verdict) (permission mute : Bool) (w : View) :
    (h.decided v permission mute w).CountsSound := by
  obtain ⟨h1, h2, h3, h4, h5, h6⟩ := hs
  refine ⟨?_, ?_, h3, h4, h5, ?_⟩ <;> dsimp only [Health.decided] <;> split_ifs
  · exact countUp_le _
  · exact h1
  · exact countUp_le _
  · exact h2
  all_goals omega

/-- An adopted hold fits its field (R25). -/
theorem unpackState_hold {v : BitVec 12} {c : Collective} (h : unpackState v = some c) : c.hold ≤ 511 := by
  unfold unpackState at h
  split at h
  · cases h; dsimp only; omega
  · cases h

/-- The holds that the table of R102 sets. -/
theorem transition_hold_le (m w : Mode) : (transition m w).hold ≤ 300 := by
  unfold transition; split_ifs <;> dsimp only <;> omega

theorem propose_hold_le {c : Collective} (h : c.hold ≤ 511) (v : View) (f : PlantFilter) : (propose c v f).hold ≤ 511 := by
  have ht := transition_hold_le c.mode (wantedMode c.mode v f)
  unfold propose warmupBlock
  split_ifs
  · exact h
  · dsimp only; omega
  · exact Nat.zero_le _
  · omega

theorem coll_round_sound {c : CollectiveBlock} (h : c.Sound) (v : View) (f : PlantFilter) : (c.round v f).Sound := by
  have hn : (adopt c.state v).hold ≤ 511 := by
    unfold adopt
    cases hu : unpackState v.state with
    | none => exact h.1
    | some x => exact unpackState_hold hu
  exact ⟨hn, propose_hold_le hn v f⟩

/-- The counts of the acceptance block and the holds of the collective mode block lie in their ranges. -/
def State.CountsSound (s : State) : Prop := s.health.CountsSound ∧ s.coll.Sound

theorem rest_sound : CollectiveBlock.Sound ⟨.rest, .rest⟩ := ⟨Nat.zero_le _, Nat.zero_le _⟩

theorem Move.keeps_counts {s t : State} (m : Move s t) (h : s.CountsSound) : t.CountsSound := by
  obtain ⟨hh, hc⟩ := id h
  obtain ⟨h1, h2, h3, h4, h5, h6⟩ := id hh
  cases m with
  | asserts => exact ⟨by simp [Health.CountsSound, Health.atReset], rest_sound⟩
  | releases => simpa [State.CountsSound] using h
  | latches =>
    refine ⟨?_, by simpa using hc⟩
    rw [latchStraps_health]
    split
    · exact ⟨h1, h2, h3, nofun, Nat.zero_lt_succ 7, Nat.zero_le 2⟩
    · exact hh
  | listens => exact ⟨⟨h1, h2, h3, nofun, Nat.zero_lt_succ 7, Nat.zero_le 2⟩, hc⟩
  | leads => exact ⟨⟨h1, h2, Nat.zero_lt_succ 29, fun _ => Nat.zero_lt_succ 3, h5, h6⟩, rest_sound⟩
  | decides => exact ⟨decided_countsSound hh _ _ _ _, hc⟩
  | isolates clash =>
    refine ⟨?_, (enterIsolated_coll clash s).symm ▸ rest_sound⟩
    rw [enterIsolated_health]
    exact ⟨h1, h2, Nat.zero_lt_succ 29, nofun, h5, h6⟩
  | counts _ link b j hl =>
    obtain ⟨-, rfl, rfl, hj⟩ | ⟨-, rfl, rfl, hb, rfl⟩ | ⟨hl, rfl, rfl, -, rfl⟩ | ⟨-, rfl, rfl, hb, rfl⟩ := hl
    · exact ⟨⟨h1, h2, h3, nofun, hj, h6⟩, hc⟩
    · exact ⟨⟨h1, h2, Nat.lt_trans hb (by decide), fun _ => hb, h5, h6⟩, hc⟩
    · exact ⟨⟨h1, h2, Nat.lt_trans (Nat.succ_lt_succ (h4 hl)) (by decide), nofun, h5, h6⟩, hc⟩
    · exact ⟨⟨h1, h2, hb, nofun, h5, h6⟩, hc⟩
  | joins _ j i hd hj => exact ⟨⟨h1, h2, Nat.zero_lt_succ 29, fun _ => Nat.zero_lt_succ 3, by exact lt_of_le_of_lt hj h5, h6⟩, hc⟩
  | reads => exact h
  | starts => exact h
  | adopts => exact ⟨hh, coll_round_sound hc _ _⟩
  | executes d =>
    obtain ⟨n, f, e, hn, hf⟩ := execute_health d s
    refine ⟨?_, by simpa using hc⟩
    rw [e]
    exact ⟨by dsimp only; omega, by dsimp only; omega, h3, h4, h5, h6⟩
  | _ => simpa [State.CountsSound] using h

/-- Settles O54: every count saturates or is compared with its limit before it moves, and every hold that is proposed or
adopted fits its field. -/
theorem countsStayInRange : Obligations.CountsStayInRange := fun _ _ =>
  step_keeps (P := State.CountsSound) Move.keeps_counts fun _ _ => id

end Sys2Proof.Machine

/-! SUPPORT. What the damper machine and the plant leave of the timers, the outputs and their own blocks. -/

namespace Sys2Proof.Machine

/-! ### The damper machine (R120 to R123) -/

/-- From `m` to `m'` the damper machine has compared, driven or stopped: of its block only the state, the direction of the
last drive, the homing pause and the stall count may differ, and of the timers those of stall, pause and dead time. -/
structure Motor.Moved (m m' : Motor) : Prop where
  damper : { m'.d with
    machine := m.d.machine, lastDrive := m.d.lastDrive, homingPause := m.d.homingPause, stalls := m.d.stalls } = m.d
  timers : { m'.t with stall := m.t.stall, motorRest := m.t.motorRest, bridgeDead := m.t.bridgeDead } = m.t

theorem Motor.Moved.refl (m : Motor) : m.Moved m := ⟨rfl, rfl⟩

theorem Motor.Moved.trans {m m' m'' : Motor} (h : m.Moved m') (h' : m'.Moved m'') : m.Moved m'' where
  damper := (congrArg (fun d : Damper => { d with
    machine := m.d.machine, lastDrive := m.d.lastDrive, homingPause := m.d.homingPause, stalls := m.d.stalls })
    h'.damper).trans h.damper
  timers := (congrArg (fun t : Timers => { t with
    stall := m.t.stall, motorRest := m.t.motorRest, bridgeDead := m.t.bridgeDead }) h'.timers).trans h.timers

theorem stop_moved (m : Motor) : m.Moved m.stop := ⟨rfl, rfl⟩
theorem drive_moved (dir : Direction) (st : DamperState) (m : Motor) : m.Moved (m.drive dir st) := ⟨rfl, rfl⟩
theorem enterHold_moved (m : Motor) : m.Moved m.enterHold := ⟨rfl, rfl⟩

theorem startDrive_moved (dir : Direction) (m : Motor) : m.Moved (m.startDrive dir) := by
  unfold Motor.startDrive
  split
  · exact drive_moved ..
  · exact ⟨rfl, rfl⟩

theorem compareFromHold_moved (m : Motor) : m.Moved m.compareFromHold := by
  unfold Motor.compareFromHold
  split
  · exact enterHold_moved m
  · exact startDrive_moved ..

/-- The comparison in a drive toward `dir`: hold, go on, or turn (R121, R122). -/
theorem travel_moved (dir back : Direction) (m : Motor) :
    m.Moved (if m.d.atTarget then m.stop.enterHold else if m.d.toward = dir then m else m.stop.startDrive back) := by
  split_ifs
  · exact (stop_moved m).trans (enterHold_moved _)
  · exact .refl m
  · exact (stop_moved m).trans (startDrive_moved ..)

theorem compare_moved (m : Motor) : m.Moved m.compare := by
  unfold Motor.compare
  cases m.d.machine with
  | hold => exact compareFromHold_moved m
  | opening => exact travel_moved .opening .closing m
  | closing => exact travel_moved .closing .opening m
  | pause =>
    dsimp only
    split_ifs
    · exact .refl m
    · exact enterHold_moved m
    · exact drive_moved ..
    · exact .refl m
  | parked | homing | retry | fault => exact .refl m

theorem Motor.Moved.mark {m m' : Motor} (h : m.Moved m') : m'.t.mark = m.t.mark := by
  have := congrArg Timers.mark h.timers
  exact this

theorem setTarget_mark (n : Nat) (m : Motor) : (m.setTarget n).t.mark = m.t.mark := by
  unfold Motor.setTarget
  split
  · rfl
  · exact (compare_moved _).mark

theorem pulse_mark (m : Motor) : m.pulse.t.mark = m.t.mark := by
  unfold Motor.pulse
  split
  · rfl
  · exact (compare_moved _).mark

theorem countStall_mark (m : Motor) : m.countStall.t.mark = m.t.mark := by
  unfold Motor.countStall
  split <;> rfl

theorem stalled_mark (m : Motor) : m.stalled.t.mark = m.t.mark := by
  unfold Motor.stalled
  split
  · exact (compareFromHold_moved _).mark
  · split_ifs
    · exact (compareFromHold_moved _).mark
    · exact countStall_mark _
  · exact countStall_mark _
  all_goals rfl

theorem pauseEnd_mark (m : Motor) : m.pauseEnd.t.mark = m.t.mark := by
  unfold Motor.pauseEnd
  split
  · rfl
  · exact (compareFromHold_moved _).mark

theorem retryEnd_mark (m : Motor) : m.retryEnd.t.mark = m.t.mark := (compareFromHold_moved _).mark

theorem homingFailed_mark (m : Motor) : m.homingFailed.t.mark = m.t.mark := by
  unfold Motor.homingFailed
  dsimp only
  split <;> rfl

theorem startHoming_mark (m : Motor) : m.startHoming.t.mark = m.t.mark := by
  unfold Motor.startHoming
  dsimp only
  split <;> rfl

/-! ### The plant (R149 to R155) -/

/-- From `p` to `q` the plant has moved: of the outputs only the compressor channel, the trip hold mark, the valve and the
fan may differ, and of the timers the intervals of valve and fan. -/
structure Plant.Moved (p q : Plant) : Prop where
  out : { q.out with
    compressor := p.out.compressor, tripHold := p.out.tripHold, valve := p.out.valve, fan := p.out.fan } = p.out
  timers : { q.t with valve := p.t.valve, fan := p.t.fan } = p.t

theorem Plant.Moved.refl (p : Plant) : p.Moved p := ⟨rfl, rfl⟩

theorem Plant.Moved.trans {p q r : Plant} (h : p.Moved q) (h' : q.Moved r) : p.Moved r where
  out := (congrArg (fun o : Output => { o with
    compressor := p.out.compressor, tripHold := p.out.tripHold, valve := p.out.valve, fan := p.out.fan })
    h'.out).trans h.out
  timers := (congrArg (fun t : Timers => { t with valve := p.t.valve, fan := p.t.fan }) h'.timers).trans h.timers

theorem requestFan_moved (p : Plant) : p.Moved p.requestFan := ⟨rfl, rfl⟩
theorem plant_stop_moved (after : CompState) (p : Plant) : p.Moved (p.stop after) := ⟨rfl, rfl⟩

/-- A change of the outdoor logic alone. -/
theorem outdoor_moved (p : Plant) (o : Outdoor) : p.Moved { p with o := o } := ⟨rfl, rfl⟩

theorem followValve_moved (m : Mode) (p : Plant) : p.Moved (p.followValve m) := by
  unfold Plant.followValve
  split <;> exact ⟨rfl, rfl⟩

theorem forcedStop_moved (p : Plant) : p.Moved p.forcedStop := by
  unfold Plant.forcedStop
  split
  · exact plant_stop_moved ..
  · exact .refl p

theorem tickDefrost_moved (i : PlantIn) (p : Plant) : p.Moved (p.tickDefrost i) := by
  unfold Plant.tickDefrost
  dsimp only
  split <;> exact ⟨rfl, rfl⟩

theorem runTick_moved (i : PlantIn) (p : Plant) : p.Moved (p.runTick i) := by
  have hwrite : p.Moved { p with o := p.o.ramp i, out := p.out.writeCompressor (10 * (p.o.ramp i).speed) } := ⟨rfl, rfl⟩
  unfold Plant.runTick
  dsimp only
  split
  · exact (hwrite.trans (followValve_moved i.mode _)).trans ((outdoor_moved _ _).trans (requestFan_moved _))
  · exact (hwrite.trans (followValve_moved i.mode _)).trans (plant_stop_moved ..)

theorem tickCompressor_moved (i : PlantIn) (p : Plant) : p.Moved (p.tickCompressor i) := by
  have hstart : p.Moved (p.start i) := ⟨rfl, rfl⟩
  unfold Plant.tickCompressor
  split
  · split
    · exact hstart.trans (runTick_moved ..)
    · exact .refl p
  · exact outdoor_moved ..
  · exact outdoor_moved ..
  all_goals exact runTick_moved ..

theorem trip_moved (p : Plant) : p.Moved p.trip := by
  have htrip : p.Moved { p with out := { p.out.stopCompressor with tripHold := true } } := ⟨rfl, rfl⟩
  unfold Plant.trip Plant.tripMachine
  dsimp only
  split
  · exact (htrip.trans (plant_stop_moved ..)).trans (outdoor_moved ..)
  · exact (htrip.trans (outdoor_moved ..)).trans (outdoor_moved ..)

theorem untrip_moved (p : Plant) : p.Moved p.untrip := by
  unfold Plant.untrip
  split
  · exact outdoor_moved ..
  · exact .refl p

theorem Plant.Moved.mark {p q : Plant} (h : p.Moved q) : q.t.mark = p.t.mark := by
  have := congrArg Timers.mark h.timers
  exact this

/-- The outdoor station's second tick (R151, R155, R156, R159). -/
theorem outdoorTick_moved (s : State) : s.plant.Moved (outdoorTick s).plant :=
  (((outdoor_moved s.plant _).trans (tickDefrost_moved ..)).trans (tickCompressor_moved ..)).trans (requestFan_moved _)

/-- The outdoor station's accepted round (R147, R152, R157). -/
theorem outdoorRound_moved (s : State) : s.plant.Moved (outdoorRound s).plant := by
  have hstop (p : Plant) (b : Bool) : p.Moved (if b then p.forcedStop else p) := by
    split
    · exact forcedStop_moved p
    · exact .refl p
  exact ((outdoor_moved s.plant { s.outdoor with pendingCt := capacityTarget s.mode s.health.view }).trans
    (hstop _ (roundForcesStop s.mode s.health.plant s.outdoor.side))).trans ((outdoor_moved ..).trans (requestFan_moved _))

/-- The outdoor station's part of an entry to ISOLATED (R162). -/
theorem outdoorSafe_moved (s : State) : s.plant.Moved (outdoorSafe s).plant :=
  (((outdoor_moved s.plant _).trans (forcedStop_moved _)).trans (outdoor_moved ..)).trans (requestFan_moved _)

theorem forceDefrost_moved (s : State) : s.plant.Moved (effectForceDefrost s).1.plant := by
  unfold effectForceDefrost
  split
  · exact (outdoor_moved s.plant _).trans (requestFan_moved _)
  · exact .refl _

theorem tripChanged_moved (s : State) : s.plant.Moved (tripChanged s).plant := by
  unfold tripChanged
  split
  · rw [withPlant_plant]
    split
    · exact (trip_moved _).trans (requestFan_moved _)
    · exact (untrip_moved _).trans (requestFan_moved _)
  all_goals exact .refl _

/-! ### The sync mark's timer (R4) -/

@[simp] theorem rehome_mark (s : State) : (rehome s).timers.mark = s.timers.mark := by
  unfold rehome
  split
  · exact startHoming_mark _
  · rfl

@[simp] theorem codeEffect_mark (c : Code) (arg : Byte) (s : State) :
    (c.effect arg s).1.timers.mark = s.timers.mark := by
  cases c with
  | zoneSet => simp only [Code.effect, effectZoneSet]; split <;> rfl
  | testDamper => exact rehome_mark s
  | forceDefrost => exact (forceDefrost_moved s).mark
  | _ => rfl

@[simp] theorem execute_mark (d : Directive) (s : State) : (execute d s).timers.mark = s.timers.mark := by
  show (carryOut d s).1.timers.mark = _
  obtain h | ⟨c, -, h⟩ := carryOut_cases d s <;> rw [h]
  exact codeEffect_mark c d.arg s

@[simp] theorem roleRound_mark (z : Settings) (s : State) : (roleRound z s).timers.mark = s.timers.mark := by
  unfold roleRound
  split
  · rfl
  · rfl
  · exact (outdoorRound_moved s).mark
  · rfl

@[simp] theorem roleSafe_mark (s : State) : (roleSafe s).timers.mark = s.timers.mark := by
  unfold roleSafe
  split
  · exact setTarget_mark ..
  · rfl
  · exact (outdoorSafe_moved s).mark
  · rfl

@[simp] theorem roleTick_mark (s : State) : (roleTick s).timers.mark = s.timers.mark := by
  unfold roleTick
  split
  · rfl
  · rfl
  · exact (outdoorTick_moved s).mark
  · rfl

@[simp] theorem roleRoundStart_mark (s : State) : (roleRoundStart s).timers.mark = s.timers.mark := by
  unfold roleRoundStart
  split
  · exact setTarget_mark ..
  all_goals rfl

@[simp] theorem takeTripSample_mark (b : Bool) (s : State) : (takeTripSample b s).timers.mark = s.timers.mark := by
  unfold takeTripSample
  split_ifs
  · rfl
  · exact (tripChanged_moved _).mark
  · rfl

@[simp] theorem startRole_mark (s : State) : (startRole s).timers.mark = s.timers.mark := by
  unfold startRole
  split
  · exact startHoming_mark _
  all_goals rfl

@[simp] theorem startKeys_mark (s : State) : (startKeys s).timers.mark = s.timers.mark := by
  unfold startKeys
  split <;> rfl

@[simp] theorem releaseReset_mark (s : State) : (releaseReset s).timers.mark = s.timers.mark := by
  unfold releaseReset
  split <;> rfl

@[simp] theorem withCapture_mark (s : State) (ch : Channel) (x : Capture) :
    (s.withCapture ch x).timers.mark = s.timers.mark := by cases ch <;> rfl

@[simp] theorem endPeriod_mark (c : PwmChannel) (s : State) : (endPeriod c s).timers.mark = s.timers.mark := by
  cases c <;> rfl

@[simp] theorem endInterval_mark (l : Load) (s : State) : (endInterval l s).timers.mark = s.timers.mark := by
  cases l <;> rfl

end Sys2Proof.Machine

/-! SUPPORT and O53. The link's invariant, move by move. -/

namespace Sys2Proof.Machine

@[simp] theorem sampleUp_mark (l : Bool) (s : State) : (sampleUp l s).timers.mark = s.timers.mark := rfl
@[simp] theorem sampleDown_mark (l : Bool) (s : State) : (sampleDown l s).timers.mark = s.timers.mark := rfl
@[simp] theorem sampleMode_mark (l : Bool) (s : State) : (sampleMode l s).timers.mark = s.timers.mark := rfl

/-- The link's invariant speaks of these fields alone; a mark that ends is no matter to it. -/
theorem LinkSound.of_eq {s t : State} (h : LinkSound s) (hst : t.rst.state = s.rst.state) (hrx : t.line.rx = s.line.rx)
    (hp : t.line.permission = s.line.permission) (him : t.asm.image = s.asm.image)
    (hl : t.health.link = s.health.link) (ha : t.health.addressClash = s.health.addressClash)
    (hc : t.health.clashMark = s.health.clashMark)
    (hm : t.timers.mark.running = true → s.timers.mark.running = true) : LinkSound t := by
  obtain ⟨h1, h2, h3, h4, h5, h6⟩ := h
  refine ⟨fun hd => ?_, by rwa [hl, hrx], by rwa [hst, hl], by rwa [ha, hl], by rwa [him, hp], by rwa [hrx, hc]⟩
  rw [State.mayDrive, hl]
  exact h1 (hd.imp (fun e => hp ▸ e) hm)

/-- A station that receives is not in QUIET. -/
theorem link_ne_quiet_of_inRound {s : State} (h : LinkSound s) (hr : s.line.rx.inRound = true) :
    s.health.link ≠ .quiet := fun hq => by
  rw [h.2.1 hq] at hr
  cases hr

theorem decides_iff (s : State) :
    s.decides = true ↔ s.health.link = .listen ∨ s.health.link = .joined ∨ s.health.link = .holdover := by
  unfold State.decides
  cases s.health.link <;> simp

/-- A station that takes decisions has no ADDRESS_CLASH (R48). -/
theorem addressClash_of_decides {s : State} (h : LinkSound s) (hd : s.decides = true) : s.health.addressClash = false := by
  obtain ⟨-, -, -, h4, -, -⟩ := h
  cases hc : s.health.addressClash with
  | false => rfl
  | true => simp [State.decides, h4 hc] at hd

/-- A station that is not CHECKED drives nothing (R2, R187). -/
theorem silent_of_not_checked {s : State} (h : LinkSound s) (hs : s.rst.state ≠ .checked) :
    s.health.link = .quiet ∧ s.mayDrive = false ∧ s.health.addressClash = false := by
  obtain ⟨-, -, h3, h4, -, -⟩ := h
  have hq : s.health.link = .quiet := by
    by_contra hn
    exact hs (h3.2 hn)
  refine ⟨hq, by simp [State.mayDrive, hq], ?_⟩
  cases hc : s.health.addressClash with
  | false => rfl
  | true => rw [h4 hc] at hq; cases hq

/-- The release of a reset changes the reset state from ASSERTED to SETTLING, or not at all (R186). -/
theorem releaseReset_state (s : State) :
    (releaseReset s).rst.state = s.rst.state ∨ s.rst.state = .asserted ∧ (releaseReset s).rst.state = .settling := by
  unfold releaseReset
  split
  · next h => exact .inr ⟨h.1, rfl⟩
  · exact .inl rfl

theorem releaseReset_checked_iff (s : State) : (releaseReset s).rst.state = .checked ↔ s.rst.state = .checked := by
  obtain h | ⟨ha, h⟩ := releaseReset_state s
  · rw [h]
  · rw [h, ha]; simp

/-- The straps that pass lead to LISTEN; those that fail leave the line as it was (R186, R187). -/
theorem latchStraps_link (a p : Nibble) (s : State) :
    (strapsPass a p = true ∧ (latchStraps a p s).rst.state = .checked ∧ (latchStraps a p s).line = s.line.toListen ∧
        (latchStraps a p s).asm = { s.asm with image := none } ∧ (latchStraps a p s).health = s.health.toListen ∧
        (latchStraps a p s).timers.mark = .stopped) ∨
      (strapsPass a p = false ∧ (latchStraps a p s).rst.state = .failed ∧ (latchStraps a p s).line = s.line ∧
        (latchStraps a p s).asm = s.asm ∧ (latchStraps a p s).health = s.health ∧
        (latchStraps a p s).timers.mark = s.timers.mark) := by
  unfold latchStraps
  dsimp only
  cases h : strapsPass a p with
  | true => exact .inl (by simp [enterListen, Timers.toListen])
  | false => exact .inr (by simp)

theorem enterIsolated_line (clash : Bool) (s : State) :
    (enterIsolated clash s).line = { s.line with permission := false } := roleSafe_line _

theorem enterIsolated_asm (clash : Bool) (s : State) :
    (enterIsolated clash s).asm = { s.asm with image := none } := roleSafe_asm _

theorem enterIsolated_mark (clash : Bool) (s : State) : (enterIsolated clash s).timers.mark = .stopped := roleSafe_mark _

theorem Move.keeps_link {s t : State} (m : Move s t) (h : LinkSound s) : LinkSound t := by
  obtain ⟨h1, h2, h3, h4, h5, h6⟩ := id h
  cases m with
  | time n =>
    refine ⟨fun hd => h1 (hd.imp id fun e => elapse_mark.symm.trans e), fun hq => ?_, h3, h4, h5, fun hr => ?_⟩
    · have hi := h2 hq
      simp [rxAfterGuard, hi]
    · exact h6 ((elapseTo_inRound ⟨false, 0⟩ n s).symm.trans hr)
  | clocks _ t hm => exact h.of_eq rfl rfl rfl rfl rfl rfl rfl hm
  | asserts k r s =>
    refine ⟨?_, fun _ => rfl, ?_, nofun, ?_, nofun⟩
    · rintro (hd | hd) <;> cases hd
    · exact ⟨nofun, fun hn => absurd rfl hn⟩
    · exact ⟨nofun, nofun⟩
  | sources _ r hs => exact h.of_eq hs rfl rfl rfl rfl rfl rfl id
  | releases =>
    refine ⟨?_, by simpa using h2, ?_, by simpa using h4, by simpa using h5, by simpa using h6⟩
    · simpa [State.drivingMark, State.mayDrive] using h1
    · rw [releaseReset_checked_iff]; simpa using h3
  | latches a p _ hs =>
    obtain ⟨hq, hd, ha⟩ := silent_of_not_checked h (by rw [hs]; decide)
    obtain ⟨-, hst, hl, hi, hh, hm⟩ | ⟨-, hst, hl, hi, hh, hm⟩ := latchStraps_link a p s
    · refine ⟨fun hd => ?_, ?_, ?_, ?_, ?_, ?_⟩
      · simp [State.drivingMark, hl, hm, LineBlock.toListen, Timer.stopped] at hd
      all_goals simp [hst, hl, hi, hh, Health.toListen, LineBlock.toListen, ha, RxState.inRound]
    · exact ⟨by simpa [State.drivingMark, State.mayDrive, hl, hm, hh] using h1, by rwa [hh, hl], by simp [hst, hh, hq],
        by rwa [hh], by rwa [hi, hl], by rwa [hl, hh]⟩
  | level _ l hrx hp => exact h.of_eq rfl hrx hp rfl rfl rfl rfl id
  | marks _ hd => exact ⟨fun _ => hd, h2, h3, h4, h5, h6⟩
  | leads _ hl =>
    refine ⟨fun _ => rfl, nofun, ?_, fun hc => ?_, h5, h6⟩
    · have hck := h3.2 (by rw [hl]; decide)
      simp [hck]
    · have := h4 hc
      rw [hl] at this; cases this
  | syncs _ hr =>
    have hq : s.health.link ≠ .quiet := by simpa [State.receives] using hr
    exact ⟨h1, fun e => absurd e hq, h3, h4, h5, nofun⟩
  | reads _ l check mark hr hrx hp =>
    have hq := link_ne_quiet_of_inRound h hr
    refine ⟨fun hd => h1 (hd.imp (fun e => hp ▸ e) id), fun e => absurd e hq, h3, h4, ?_,
      fun e => ?_⟩
    · rw [hp]; exact h5
    · exact absurd (hrx.symm.trans e) (by decide)
  | starts _ hr =>
    have hq : s.health.link ≠ .quiet := fun e => by rw [h2 e] at hr; cases hr
    refine ⟨fun hd => ?_, fun e => absurd e hq, h3, h4, ?_, fun _ => rfl⟩
    · exact hd.elim id fun e => h1 (.inr e)
    · dsimp only [LineBlock.start]
      cases s.mayDrive <;> simp
  | decides v w => exact h.of_eq rfl rfl rfl (decideRound_image v w s) rfl rfl rfl id
  | isolates clash _ hd =>
    have hck : s.rst.state = .checked := h3.2 fun e => by simp [State.decides, e] at hd
    refine ⟨?_, ?_, ?_, ?_, ?_, ?_⟩
    · simp [State.drivingMark, enterIsolated_line, enterIsolated_mark, Timer.stopped]
    all_goals simp [enterIsolated_line, enterIsolated_asm, enterIsolated_health, Health.isolate, hck]
    exact h6
  | counts _ link b j hl =>
    have hd : s.decides = true := (decides_iff s).2 (by
      obtain ⟨e, -⟩ | ⟨e, -⟩ | ⟨e, -⟩ | ⟨e, -⟩ := hl <;> simp [e])
    have hck : s.rst.state = .checked := h3.2 fun e => by simp [State.decides, e] at hd
    have hn : link ≠ .quiet := by
      obtain ⟨-, rfl, -⟩ | ⟨-, rfl, -⟩ | ⟨-, rfl, -⟩ | ⟨-, rfl, -⟩ := hl <;> decide
    refine ⟨fun hx => ?_, fun e => absurd e hn, ⟨fun _ => hn, fun _ => hck⟩, fun e => ?_, h5, h6⟩
    · have hm := h1 hx
      obtain ⟨e, -⟩ | ⟨-, rfl, -⟩ | ⟨-, rfl, -⟩ | ⟨-, rfl, -⟩ := hl
      · simp [State.mayDrive, e] at hm
      all_goals rfl
    · exact absurd ((addressClash_of_decides h hd).symm.trans e) (by decide)
  | joins _ j i hd =>
    have hck : s.rst.state = .checked := h3.2 fun e => by simp [State.decides, e] at hd
    refine ⟨fun _ => rfl, nofun, ⟨fun _ => nofun, fun _ => hck⟩, fun e => ?_, h5, h6⟩
    exact absurd ((addressClash_of_decides h hd).symm.trans e) (by decide)
  | executes d =>
    obtain ⟨n, f, e, -, -⟩ := execute_health d s
    exact h.of_eq (by simp) (by simp) (by simp) (by simp) (by rw [e]) (by rw [e]) (by rw [e]) (by simp)
  | listens _ hi hc =>
    have hck : s.rst.state = .checked := h3.2 (by rw [hi]; decide)
    refine ⟨?_, fun _ => rfl, ⟨fun _ => nofun, fun _ => hck⟩, ?_, ⟨nofun, nofun⟩, nofun⟩
    · rintro (hd | hd) <;> cases hd
    · intro e; exact absurd (hc.symm.trans e) (by decide)
  | pulses => exact h.of_eq rfl rfl rfl rfl rfl rfl rfl fun e => pulse_mark s.motor ▸ e
  | stalls => exact h.of_eq rfl rfl rfl rfl rfl rfl rfl fun e => stalled_mark s.motor ▸ e
  | pauseEnds => exact h.of_eq rfl rfl rfl rfl rfl rfl rfl fun e => pauseEnd_mark s.motor ▸ e
  | retryEnds => exact h.of_eq rfl rfl rfl rfl rfl rfl rfl fun e => retryEnd_mark s.motor ▸ e
  | homingFails => exact h.of_eq rfl rfl rfl rfl rfl rfl rfl fun e => homingFailed_mark s.motor ▸ e
  | _ => exact h.of_eq (by simp) (by simp) (by simp) (by simp) (by simp) (by simp) (by simp) (by simp)

/-- Settles O53: move by move, with the guards of the line's commands. -/
theorem linkStaysSound : Obligations.LinkStaysSound := fun _ _ =>
  step_keeps (P := LinkSound) Move.keeps_link fun _ _ => id

end Sys2Proof.Machine

/-! SUPPORT and O55. The directive unit's invariant, move by move. -/

namespace Sys2Proof.Machine

/-- What `UnitSound` says of the directive unit of a station with the role `r` that may drive or not. -/
def DirectiveUnit.Sound (r : Role) (drives : Bool) (u : DirectiveUnit) : Prop :=
  u.queue.length ≤ 4 ∧
    (∀ e ∈ u.queue, e.wins < 3 ∧ e.age < 16) ∧
    (drives = false → u.queue = [] ∧ u.tests = .cleared) ∧
    (∀ arg, u.tests.role = some arg → testArgSound r arg) ∧
    (u.tracker.count ≤ 3 ∧ (u.tracker.executed.isSome = true → u.tracker.count = 3))

theorem unitSound_iff (s : State) : UnitSound s ↔ s.dir.Sound s.role s.mayDrive := Iff.rfl

/-- A unit with an empty queue and an empty test set is sound for every role, as far as its tracker goes. -/
theorem DirectiveUnit.sound_of_empty (u : DirectiveUnit) (hq : u.queue = []) (ht : u.tests = .cleared)
    (hk : u.tracker.count ≤ 3 ∧ (u.tracker.executed.isSome = true → u.tracker.count = 3)) {r : Role} {d : Bool} :
    u.Sound r d :=
  ⟨by simp [hq], by simp [hq], fun _ => ⟨hq, ht⟩, by simp [ht, TestSet.cleared], hk⟩

theorem DirectiveUnit.Sound.empty {r : Role} {u : DirectiveUnit} (h : u.Sound r false) :
    u.queue = [] ∧ u.tests = .cleared := h.2.2.1 rfl

/-- A sound unit stays sound where the station may drive now; the reply is no matter to it. -/
theorem DirectiveUnit.Sound.of_eq {r r' : Role} {d d' : Bool} {u v : DirectiveUnit} (h : u.Sound r d) (hr : r' = r)
    (hd : d' = false → d = false) (hq : v.queue = u.queue) (ht : v.tests = u.tests) (hk : v.tracker = u.tracker) :
    v.Sound r' d' := by
  obtain ⟨h1, h2, h3, h4, h5⟩ := h
  exact ⟨hq ▸ h1, hq ▸ h2, fun e => by rw [hq, ht]; exact h3 (hd e), by rw [ht, hr]; exact h4, hk ▸ h5⟩

/-- The tracker's count stays within 3, and the executed mark goes with a count of 3 (R176). -/
theorem tracker_update_sound {t : Tracker} (h : t.count ≤ 3 ∧ (t.executed.isSome = true → t.count = 3))
    (field : Option Directive) :
    (t.update field).count ≤ 3 ∧ ((t.update field).executed.isSome = true → (t.update field).count = 3) := by
  obtain ⟨h1, h2⟩ := h
  cases field with
  | none => exact ⟨Nat.zero_le 3, nofun⟩
  | some d =>
    dsimp only [Tracker.update]
    split_ifs
    · refine ⟨Nat.min_le_left .., fun e => ?_⟩
      have := h2 e
      dsimp only; omega
    · exact ⟨Nat.le_of_lt (Nat.lt_of_sub_eq_succ rfl), nofun⟩

/-! ### The limits of the role tests (R128, R144, R161) -/

theorem limitDamperArg_sound (arg : Byte) : testArgSound .zone (limitDamperArg arg) := by
  simp only [testArgSound, limitDamperArg, BitVec.toNat_ofNat]
  omega

theorem limitBlowerArg_sound (arg : Byte) : testArgSound .handler (limitBlowerArg arg) := by
  unfold testArgSound limitBlowerArg
  split_ifs
  · exact .inl rfl
  · right
    have := limitTo_mem (lo := 75) (hi := 250) (by decide) arg.toNat
    simp only [BitVec.toNat_ofNat]
    omega

theorem limitSpeedArg_sound (arg : Byte) : testArgSound .outdoor (limitSpeedArg arg) := by
  unfold testArgSound limitSpeedArg
  split_ifs
  · exact .inl rfl
  · right
    have := limitTo_mem (lo := 30) (hi := 100) (by decide) arg.toNat
    simp only [BitVec.toNat_ofNat]
    omega

/-- A directive's effect leaves queue and tracker alone, and latches a role test of its own role within its limits
(R181). -/
theorem codeEffect_dir (c : Code) (arg : Byte) (s : State) (hr : c.forRole s.role = true) :
    (c.effect arg s).1.dir.queue = s.dir.queue ∧
      ((c.effect arg s).1.dir.tests.role = s.dir.tests.role ∨
        ∀ x, (c.effect arg s).1.dir.tests.role = some x → testArgSound s.role x) := by
  cases c with
  | testDamper =>
    rw [show s.role = .zone from of_decide_eq_true hr]
    exact ⟨by simp [Code.effect, effectTestDamper, latchRole], .inr fun x hx => by cases hx; exact limitDamperArg_sound arg⟩
  | testBlower =>
    rw [show s.role = .handler from of_decide_eq_true hr]
    exact ⟨rfl, .inr fun x hx => by cases hx; exact limitBlowerArg_sound arg⟩
  | testSpeed =>
    rw [show s.role = .outdoor from of_decide_eq_true hr]
    exact ⟨rfl, .inr fun x hx => by cases hx; exact limitSpeedArg_sound arg⟩
  | normal => exact ⟨rfl, .inr nofun⟩
  | zoneSet =>
    simp only [Code.effect, effectZoneSet]
    split <;> exact ⟨rfl, .inl rfl⟩
  | forceDefrost =>
    simp only [Code.effect, effectForceDefrost]
    split <;> exact ⟨rfl, .inl rfl⟩
  | _ => exact ⟨rfl, .inl rfl⟩

/-- An execution keeps the directive unit of a station that may drive sound. -/
theorem execute_unit {s : State} (h : s.dir.Sound s.role true) (d : Directive) :
    (execute d s).dir.Sound s.role true := by
  obtain ⟨h1, h2, -, h4, -⟩ := h
  obtain ⟨c, hc, e⟩ | ⟨-, e⟩ := execute_cases d s <;> rw [e]
  · obtain ⟨hq, ht⟩ := codeEffect_dir c d.arg s (acceptedCode_some hc).2.1
    refine ⟨by exact hq ▸ h1, by exact hq ▸ h2, nofun, ?_, Nat.le_refl 3, fun _ => rfl⟩
    obtain ht | ht := ht
    · dsimp only; rwa [ht]
    · exact ht
  · exact ⟨h1, h2, nofun, h4, Nat.le_refl 3, fun _ => rfl⟩

/-! ### The moves -/

@[simp] theorem releaseReset_role (s : State) : (releaseReset s).role = s.role := by
  unfold releaseReset
  split <;> rfl

@[simp] theorem releaseReset_mayDrive (s : State) : (releaseReset s).mayDrive = s.mayDrive := by simp [State.mayDrive]

/-- The straps that latch clear the tracker or leave the directive unit as it was (R183). -/
theorem latchStraps_dir (a p : Nibble) (s : State) :
    (latchStraps a p s).dir = if strapsPass a p then { s.dir with tracker := .cleared, reply := none } else s.dir := by
  unfold latchStraps
  dsimp only
  split <;> simp [enterListen]

theorem enterIsolated_dir (clash : Bool) (s : State) : (enterIsolated clash s).dir = s.dir.isolate := roleSafe_dir _

theorem mayDrive_eq_false_iff (s : State) :
    s.mayDrive = false ↔ s.health.link ≠ .joined ∧ s.health.link ≠ .holdover := by
  simp [State.mayDrive]

theorem mayDrive_of_link {s t : State} (h : t.health.link = s.health.link) : t.mayDrive = s.mayDrive := by
  rw [State.mayDrive, h, State.mayDrive]

theorem Move.keeps_unit {s t : State} (m : Move s t) (hl : LinkSound s) (h : s.dir.Sound s.role s.mayDrive) :
    t.dir.Sound t.role t.mayDrive := by
  have hk := h.2.2.2.2
  cases m with
  | asserts => exact DirectiveUnit.sound_of_empty .atReset rfl rfl ⟨Nat.zero_le 3, nofun⟩
  | sources _ r _ ha => exact h.of_eq (congrArg roleOf ha) id rfl rfl rfl
  | releases => simpa using h
  | latches a p _ hs =>
    have hd := (silent_of_not_checked hl (by rw [hs]; decide)).2.1
    rw [hd] at h
    rw [latchStraps_dir]
    split
    · exact DirectiveUnit.sound_of_empty ⟨_, .cleared, none, _⟩ h.empty.1 h.empty.2 ⟨Nat.zero_le 3, nofun⟩
    · exact DirectiveUnit.sound_of_empty _ h.empty.1 h.empty.2 hk
  | starts => exact h.of_eq rfl id rfl rfl rfl
  | leads => exact h.of_eq rfl nofun rfl rfl rfl
  | decides v w =>
    obtain ⟨h1, h2, h3, h4, h5⟩ := h
    by_cases hp : s.line.permission = true ∧ v ≠ .missing
    · have hd : s.mayDrive = true := hl.1 (.inl hp.1)
      obtain ⟨g1, g2⟩ := updateQueue_spec v.isAccepted s.line.outcomes.directive h1 h2
      have e : (decideRound v w s).dir =
          { s.dir with queue := updateQueue v.isAccepted s.line.outcomes.directive s.dir.queue } := if_pos hp
      rw [e]
      exact ⟨g1, g2, fun hn => absurd (hd.symm.trans hn) (by decide), h4, h5⟩
    · have e : (decideRound v w s).dir = s.dir := if_neg hp
      rw [e]
      exact ⟨h1, h2, h3, h4, h5⟩
  | isolates clash =>
    rw [enterIsolated_dir]
    exact DirectiveUnit.sound_of_empty s.dir.isolate rfl rfl hk
  | counts _ link b j hc =>
    refine h.of_eq rfl (fun hn => ?_) rfl rfl rfl
    rw [mayDrive_eq_false_iff] at hn ⊢
    obtain ⟨e, -⟩ | ⟨-, rfl, -⟩ | ⟨-, rfl, -⟩ | ⟨-, rfl, -⟩ := hc
    · simp [e]
    all_goals simp [State.counted] at hn
  | joins => exact h.of_eq rfl nofun rfl rfl rfl
  | tracks _ field =>
    obtain ⟨h1, h2, h3, h4, -⟩ := h
    exact ⟨h1, h2, h3, h4, tracker_update_sound hk field⟩
  | executes d _ hj =>
    have hd : s.mayDrive = true := by simp [State.mayDrive, hj]
    obtain ⟨n, f, e, -, -⟩ := execute_health d s
    have hr : (execute d s).role = s.role := by simp [State.role]
    have hd' : (execute d s).mayDrive = true := by simpa [State.mayDrive, e] using hd
    rw [hr, hd']
    rw [hd] at h
    exact execute_unit h d
  | listens _ hi =>
    have hd : s.mayDrive = false := by simp [State.mayDrive, hi]
    rw [hd] at h
    exact DirectiveUnit.sound_of_empty ⟨_, .cleared, none, _⟩ h.empty.1 h.empty.2 ⟨Nat.zero_le 3, nofun⟩
  | offers _ es he =>
    obtain ⟨h1, h2, h3, h4, h5⟩ := h
    refine ⟨offer_length _ _ h1, ?_, fun hn => ?_, h4, h5⟩
    · unfold offer
      split
      · exact List.forall_mem_append.2 ⟨h2, he⟩
      · exact h2
    · have hn' : s.mayDrive = false := hn
      simpa [offer, hn'] using h3 hn'
  | _ => exact h.of_eq (by simp [State.role]) (mayDrive_of_link (by simp)).symm.trans (by simp) (by simp) (by simp)

/-- The invariants of the link and of the directive unit together: the unit's rests on the link's. -/
theorem Move.keeps_link_unit {s t : State} (m : Move s t) (h : LinkSound s ∧ UnitSound s) :
    LinkSound t ∧ UnitSound t :=
  ⟨m.keeps_link h.1, m.keeps_unit h.1 h.2⟩

/-- Settles O55: move by move; drive permission, which the queue's update asks for, is the link's invariant. -/
theorem directiveUnitStaysSound : Obligations.DirectiveUnitStaysSound := fun _ _ =>
  step_keeps (P := fun s => LinkSound s ∧ UnitSound s) Move.keeps_link_unit fun _ _ => id

end Sys2Proof.Machine

/-! SUPPORT and O57. The damper machine's invariant, move by move. -/

namespace Sys2Proof.Machine

theorem damperSound_iff (s : State) :
    DamperSound s ↔ s.motor.Sound ∧ (s.rst.state ≠ .checked → s.damper.machine = .parked) :=
  ⟨fun ⟨h1, h2, h3, h4, h5⟩ => ⟨⟨h1, h3, h4, h5⟩, h2⟩, fun ⟨⟨h1, h3, h4, h5⟩, h2⟩ => ⟨h1, h2, h3, h4, h5⟩⟩

/-- The damper's invariant speaks of the damper block, the bridge and the reset state alone. -/
theorem DamperSound.of_eq {s t : State} (h : DamperSound s) (hd : t.damper = s.damper)
    (hb : t.out.bridge = s.out.bridge) (hs : t.rst.state ≠ .checked → s.rst.state ≠ .checked) : DamperSound t := by
  obtain ⟨h1, h2, h3, h4, h5⟩ := h
  exact ⟨hd ▸ h1, fun e => hd ▸ h2 (hs e), by rw [hb, hd]; exact h3, hd ▸ h4, hb ▸ h5⟩

/-- A move of the damper machine in a started station. -/
theorem DamperSound.withMotor_checked {s : State} (hc : s.rst.state = .checked) {m : Motor} (hm : m.Sound) :
    DamperSound (s.withMotor m) :=
  (damperSound_iff _).2 ⟨hm, fun hn => absurd hc hn⟩

/-- A move of the damper machine that leaves a parked one parked. -/
theorem DamperSound.withMotor_parked {s : State} (h : DamperSound s) {m : Motor} (hm : m.Sound)
    (hp : s.damper.machine = .parked → m.d.machine = .parked) : DamperSound (s.withMotor m) :=
  (damperSound_iff _).2 ⟨hm, fun hn => hp (h.2.1 hn)⟩

/-- A machine that is not parked stands in a started station (R120, R187). -/
theorem DamperSound.checked_of_machine {s : State} (h : DamperSound s) (hm : s.damper.machine ≠ .parked) :
    s.rst.state = .checked := by
  by_contra hn
  exact hm (h.2.1 hn)

/-! ### A parked machine (R120) -/

theorem compare_of_parked {m : Motor} (h : m.d.machine = .parked) : m.compare = m := by
  unfold Motor.compare
  rw [h]

theorem setTarget_parked (n : Nat) {m : Motor} (h : m.d.machine = .parked) : (m.setTarget n).d.machine = .parked := by
  unfold Motor.setTarget
  split
  · exact h
  · rw [compare_of_parked (m := { m with d := { m.d with target := n } }) h]; exact h

theorem pulse_of_parked {m : Motor} (h : m.d.machine = .parked) : m.pulse = m := if_pos h

theorem stalled_of_parked {m : Motor} (h : m.d.machine = .parked) : m.stalled = m := by
  unfold Motor.stalled
  rw [h]

/-! ### The bridge, left alone by the other roles -/

theorem Plant.Moved.bridge {p q : Plant} (h : p.Moved q) : q.out.bridge = p.out.bridge := by
  have := congrArg Output.bridge h.out
  exact this

@[simp] theorem handlerRoundStart_bridge (s : State) : (handlerRoundStart s).out.bridge = s.out.bridge := rfl
@[simp] theorem outdoorRoundStart_bridge (s : State) : (outdoorRoundStart s).out.bridge = s.out.bridge := rfl
@[simp] theorem handlerSafe_bridge (s : State) : (handlerSafe s).out.bridge = s.out.bridge := rfl
@[simp] theorem outdoorSafe_bridge (s : State) : (outdoorSafe s).out.bridge = s.out.bridge := (outdoorSafe_moved s).bridge

@[simp] theorem roleRound_bridge (z : Settings) (s : State) : (roleRound z s).out.bridge = s.out.bridge := by
  unfold roleRound
  split
  · rfl
  · rfl
  · exact (outdoorRound_moved s).bridge
  · rfl

@[simp] theorem roleTick_bridge (s : State) : (roleTick s).out.bridge = s.out.bridge := by
  unfold roleTick
  split
  · rfl
  · rfl
  · exact (outdoorTick_moved s).bridge
  · rfl

@[simp] theorem takeTripSample_bridge (b : Bool) (s : State) : (takeTripSample b s).out.bridge = s.out.bridge := by
  unfold takeTripSample
  split_ifs
  · rfl
  · exact (tripChanged_moved _).bridge
  · rfl

@[simp] theorem endPeriod_bridge (c : PwmChannel) (s : State) : (endPeriod c s).out.bridge = s.out.bridge := by
  cases c <;> rfl

@[simp] theorem endInterval_bridge (l : Load) (s : State) : (endInterval l s).out.bridge = s.out.bridge := by
  cases l <;> rfl

@[simp] theorem releaseReset_bridge (s : State) : (releaseReset s).out.bridge = s.out.bridge := by simp

/-- A directive's effect leaves damper and bridge alone, or homes the damper (R128). -/
theorem codeEffect_damper (c : Code) (arg : Byte) (s : State) :
    ((c.effect arg s).1.damper = s.damper ∧ (c.effect arg s).1.out.bridge = s.out.bridge) ∨
      ((c.effect arg s).1.damper = (rehome s).damper ∧ (c.effect arg s).1.out.bridge = (rehome s).out.bridge) := by
  cases c with
  | testDamper => exact .inr ⟨rfl, rfl⟩
  | zoneSet => simp only [Code.effect, effectZoneSet]; split <;> exact .inl ⟨rfl, rfl⟩
  | forceDefrost => exact .inl ⟨by simp only [Code.effect, effectForceDefrost]; split <;> rfl, (forceDefrost_moved s).bridge⟩
  | _ => exact .inl ⟨rfl, rfl⟩

/-- Homing after a damper fault starts from a machine at rest in FAULT (R127, R128). -/
theorem rehome_damperSound {s : State} (h : DamperSound s) (hc : s.rst.state = .checked) : DamperSound (rehome s) := by
  unfold rehome
  split
  · next hf =>
    obtain ⟨h1, h2, h3, h4, h5, h6⟩ := ((damperSound_iff s).1 h).1.loose
    have hm : s.damper.machine = .fault := h.1.2.2.2.2.2.1.1 hf
    refine .withMotor_checked hc (startHoming_sound ⟨h1, h2, h3, h4, h5, h6⟩ rfl ?_)
    show s.out.bridge.asked = none
    rw [h.2.2.1, Damper.drive, hm]
  · exact h

theorem execute_damperSound {s : State} (h : DamperSound s) (hc : s.rst.state = .checked) (d : Directive) :
    DamperSound (execute d s) := by
  have key : DamperSound (carryOut d s).1 := by
    obtain e | ⟨c, -, e⟩ := carryOut_cases d s <;> rw [e]
    · exact h
    · obtain ⟨hd, hb⟩ | ⟨hd, hb⟩ := codeEffect_damper c d.arg s
      · exact h.of_eq hd hb (by simp)
      · exact (rehome_damperSound h hc).of_eq hd hb (by simp)
  exact key.of_eq rfl rfl id

/-- What a reset leaves of damper and bridge (R130, R171). -/
theorem damperSound_of_reset {s : State} (hd : s.damper = .atReset) (hb : s.out.bridge = .atReset) : DamperSound s := by
  have hm : s.motor.Sound := by
    simp [Motor.Sound, State.motor, hd, hb, Damper.Sound, Damper.atReset, Bridge.atReset, Damper.drive]
  exact (damperSound_iff s).2 ⟨hm, fun _ => by rw [hd]; rfl⟩

theorem periodStart_asked (dead : Timer) (b : Bridge) : (b.periodStart dead).asked = b.asked := by
  unfold Bridge.periodStart
  split
  · split <;> rfl
  · rfl

/-- A period start brings no half to conduct but the one asked for (R168). -/
theorem periodStart_conducting (dead : Timer) {b : Bridge} (h : ∀ d, b.conducting = some d → b.asked = some d) :
    ∀ d, (b.periodStart dead).conducting = some d → (b.periodStart dead).asked = some d := by
  rw [periodStart_asked]
  unfold Bridge.periodStart
  split
  · next d hd =>
    split
    · exact h
    · intro x hx
      cases hx
      exact hd
  · exact h

/-! ### The moves -/

/-- The target in effect is a position of 0..400 (R119, R128). -/
theorem targetInEffect_le {test : Option Byte} {pending : Nat} (ht : ∀ a, test = some a → testArgSound .zone a)
    (hp : pending ≤ 400) : targetInEffect test pending ≤ 400 := by
  cases test with
  | none => exact hp
  | some a =>
    have : a.toNat ≤ 100 := ht a rfl
    simp only [targetInEffect]; omega

/-- Before the straps pass the machine stands parked, without a fault and with the bridge asked for nothing. -/
theorem startRole_damperSound {s : State} (h : DamperSound s) (hp : s.damper.machine = .parked) (hc : s.rst.state = .checked) :
    DamperSound (startRole s) := by
  have hl := ((damperSound_iff s).1 h).1
  unfold startRole
  split
  · refine .withMotor_checked hc (startHoming_sound hl.loose (hl.fault_of_driving ?_) ?_)
    · show s.damper.machine ≠ .fault
      rw [hp]; decide
    · show s.out.bridge.asked = none
      rw [h.2.2.1, Damper.drive, hp]
  all_goals exact h

theorem latchStraps_damperSound (a p : Nibble) {s : State} (h : DamperSound s) (hs : s.rst.state = .settling) :
    DamperSound (latchStraps a p s) := by
  have hp : s.damper.machine = .parked := h.2.1 (by rw [hs]; decide)
  unfold latchStraps
  dsimp only
  have hn : s.rst.state ≠ .checked := by rw [hs]; decide
  split
  ·     exact startRole_damperSound (h.of_eq (by simp [startMeasurement, enterListen]) (by simp [startMeasurement, enterListen])
      fun _ => hn) (by simpa [startMeasurement, enterListen] using hp) (by simp [startMeasurement, enterListen])
  · exact h.of_eq (by simp) (by simp) fun _ => hn

/-- The safe state brings the damper to 400 in effect (R55, R119). -/
theorem roleSafe_damperSound {s : State} (h : DamperSound s) (hc : s.rst.state = .checked) : DamperSound (roleSafe s) := by
  unfold roleSafe
  split
  · obtain ⟨⟨h1, h2, -, -, h5, h6⟩, h7, h8, h9⟩ := ((damperSound_iff s).1 h).1
    exact .withMotor_checked hc (setTarget_sound (m := ⟨⟨_, _, 100, 400, _, _, _, _, _, _, _, _⟩, _, _⟩)
      ⟨⟨h1, h2, Nat.le_refl 400, Nat.le_refl 100, h5, h6⟩, h7, h8, h9⟩ (Nat.le_refl 400))
  · exact h.of_eq (by simp) (by simp) id
  · exact h.of_eq (by simp) (by simp) (by simp)
  · exact h

/-- A zone at an accepted round moves its request, its grant and its position (R114 to R118). -/
theorem roleRound_damperSound (z : Settings) {s : State} (h : DamperSound s) : DamperSound (roleRound z s) := by
  unfold roleRound
  split
  · obtain ⟨⟨h1, h2, -, -, h5, h6⟩, h7, h8, h9⟩ := ((damperSound_iff s).1 h).1
    refine (damperSound_iff _).2 ⟨⟨⟨h1, h2, ?_, ?_, h5, h6⟩, h7, h8, h9⟩, h.2.1⟩
    · exact Nat.mul_le_mul_right 4 (positionOf_le ..)
    · exact positionOf_le ..
  · exact h.of_eq (by simp) rfl id
  · exact h.of_eq (by simp) (outdoorRound_moved s).bridge (by simp)
  · exact h

theorem Move.keeps_damper {s t : State} (m : Move s t) (hl : LinkSound s) (hu : UnitSound s) (h : DamperSound s) :
    DamperSound t := by
  have hm := ((damperSound_iff s).1 h).1
  cases m with
  | asserts => exact damperSound_of_reset rfl rfl
  | sources _ r hs => exact h.of_eq rfl rfl fun e => hs ▸ e
  | releases => exact h.of_eq (by simp) (by simp) (mt (releaseReset_checked_iff s).2)
  | latches a p _ hs => exact latchStraps_damperSound a p h hs
  | roleStarts =>
    unfold roleRoundStart
    split
    · next hr =>
      refine h.withMotor_parked (setTarget_sound hm (targetInEffect_le (fun a ha => ?_) h.1.2.2.1)) fun hp => setTarget_parked _ hp
      exact hr ▸ hu.2.2.2.1 a ha
    · exact h.of_eq (by simp) (by simp) id
    · exact h.of_eq (by simp) (by simp) id
    · exact h
  | isolates clash _ hd =>
    have hck : s.rst.state = .checked := hl.2.2.1.2 fun e => by simp [State.decides, e] at hd
    exact roleSafe_damperSound (h.of_eq rfl rfl id) hck
  | executes d _ hj => exact execute_damperSound h (hl.2.2.1.2 (by rw [hj]; decide)) d
  | roleRounds z => exact roleRound_damperSound z h
  | pulses => exact h.withMotor_parked (pulse_sound hm) fun hp => by rw [pulse_of_parked hp]; exact hp
  | stalls => exact h.withMotor_parked (stalled_sound hm) fun hp => by rw [stalled_of_parked hp]; exact hp
  | pauseEnds _ hp => exact .withMotor_checked (h.checked_of_machine (by rw [hp]; decide)) (pauseEnd_sound hm hp)
  | retryEnds _ hp => exact .withMotor_checked (h.checked_of_machine (by rw [hp]; decide)) (retryEnd_sound hm hp)
  | homingFails _ hs =>
    refine .withMotor_checked (h.checked_of_machine fun hp => ?_) (homingFailed_sound hm)
    simp [Damper.seeking, hp] at hs
  | bridges dead =>
    obtain ⟨h1, h2, h3, h4, h5⟩ := h
    exact ⟨h1, h2, h3.symm ▸ periodStart_asked dead s.out.bridge, h4, periodStart_conducting dead h5⟩
  | _ => exact h.of_eq (by simp) (by simp) (by simp)

/-- The invariants of the link, the directive unit and the damper together: the damper's rests on the other two. -/
theorem Move.keeps_link_unit_damper {s t : State} (m : Move s t) (h : LinkSound s ∧ UnitSound s ∧ DamperSound s) :
    LinkSound t ∧ UnitSound t ∧ DamperSound t := by
  obtain ⟨hl, hu, hd⟩ := h
  exact ⟨m.keeps_link hl, m.keeps_unit hl hu, m.keeps_damper hl hu hd⟩

/-- Settles O57: move by move, each move of the damper machine by its law. -/
theorem damperStaysSound : Obligations.DamperStaysSound := fun _ _ =>
  step_keeps (P := fun s => LinkSound s ∧ UnitSound s ∧ DamperSound s) Move.keeps_link_unit_damper fun _ _ => id

end Sys2Proof.Machine

/-! SUPPORT and O58. The plant's invariant, move by move. -/

namespace Sys2Proof.Machine

/-! ### The outdoor logic (R147 to R159) -/

/-- A plant with the machine, the speed, the targets and the channel of a sound one. -/
theorem Plant.Sound.of_eq {p q : Plant} (h : p.Sound) (hc : q.o.comp = p.o.comp) (hs : q.o.speed = p.o.speed)
    (ht : q.o.offTimer = p.o.offTimer) (hct : q.o.ct = p.o.ct) (hp : q.o.pendingCt = p.o.pendingCt)
    (hd : p.o.comp.isRunning = false → q.o.defrost = .normal) (ho : q.out.compressor = p.out.compressor)
    (hh : q.out.tripHold = p.out.tripHold) : q.Sound := by
  obtain ⟨h1, h2, h3, h4, h5, h6, h7, h8⟩ := h
  refine ⟨?_, fun hx => ⟨?_, hd (hc ▸ hx)⟩, ?_, hct ▸ h4, hp ▸ h5, ?_, ?_, ho ▸ h8⟩
  · rw [hc, hs]; exact h1
  · rw [hs]; exact (h2 (hc ▸ hx)).1
  · rw [hc, ht]; exact h3
  · rw [hc, ho]; exact h6
  · rw [hh, hc]; exact h7

/-- The defrost machine's tick keeps the plant sound: without a run it stays in NORMAL (R156). -/
theorem plant_tickDefrost_sound {p : Plant} (h : p.Sound) (i : PlantIn) : (p.tickDefrost i).Sound := by
  obtain ⟨ho, hout⟩ := plant_tickDefrost_spec i p
  obtain ⟨hc, hs, hct, hp, ht, -⟩ := tickDefrost_fields i p.o
  have hout' : (p.tickDefrost i).out.compressor = p.out.compressor ∧ (p.tickDefrost i).out.tripHold = p.out.tripHold := by
    split at hout <;> rw [hout.1] <;> exact ⟨rfl, rfl⟩
  refine h.of_eq (by rw [ho, hc]) (by rw [ho, hs]) (by rw [ho, ht]) (by rw [ho, hct]) (by rw [ho, hp]) (fun hr => ?_)
    hout'.1 hout'.2
  have hn := h.2.1 hr
  rw [ho]
  exact tickDefrost_normal i hn.2 hn.1

/-- A compressor that runs after a tick ran before it, or has started, which an active trip input and LOCKOUT bar
(R150). -/
theorem running_of_tickCompressor (i : PlantIn) (p : Plant) (h : (p.tickCompressor i).o.comp.isRunning = true) :
    p.o.comp.isRunning = true ∨ i.trip = false ∧ p.o.lockout = false := by
  unfold Plant.tickCompressor at h
  cases hc : p.o.comp with
  | stopped =>
    rw [hc] at h
    dsimp only at h
    split at h
    · next hm =>
      simp only [Outdoor.mayStart, Bool.and_eq_true, Bool.not_eq_true'] at hm
      exact .inr ⟨hm.1.1.2, hm.1.2⟩
    · rw [hc] at h; cases h
  | minOff =>
    rw [hc] at h
    dsimp only at h
    split at h <;> cases h
  | tripped =>
    rw [hc] at h
    dsimp only at h
    rw [hc] at h; cases h
  | _ => exact .inl rfl

/-! ### LOCKOUT under the plant's moves (R159) -/

@[simp] theorem forcedStop_lockout (p : Plant) : p.forcedStop.o.lockout = p.o.lockout := by
  unfold Plant.forcedStop
  split <;> rfl

@[simp] theorem abortDefrost_lockout (m : Mode) (o : Outdoor) : (o.abortDefrost m).lockout = o.lockout := by
  unfold Outdoor.abortDefrost
  split <;> rfl

@[simp] theorem plant_tickDefrost_lockout (i : PlantIn) (p : Plant) : (p.tickDefrost i).o.lockout = p.o.lockout := by
  rw [(plant_tickDefrost_spec i p).1]
  exact (tickDefrost_fields i p.o).2.2.2.2.2.1

@[simp] theorem runTick_lockout (i : PlantIn) (p : Plant) : (p.runTick i).o.lockout = p.o.lockout := by
  unfold Plant.runTick
  dsimp only
  split
  · rfl
  · show (Plant.followValve i.mode _).o.lockout = _
    rw [followValve_o]
    rfl

@[simp] theorem tickCompressor_lockout (i : PlantIn) (p : Plant) : (p.tickCompressor i).o.lockout = p.o.lockout := by
  unfold Plant.tickCompressor
  split
  · split
    · rw [runTick_lockout]; rfl
    · rfl
  · rfl
  · rfl
  all_goals exact runTick_lockout i p

theorem outdoorTick_lockout (s : State) : (outdoorTick s).outdoor.lockout = s.outdoor.lockout := by
  show Outdoor.lockout (Plant.o (Plant.requestFan _)) = _
  simp

theorem outdoorRound_lockout (s : State) : (outdoorRound s).outdoor.lockout = s.outdoor.lockout := by
  show Outdoor.lockout (Plant.o (Plant.requestFan _)) = _
  simp only [requestFan_o, abortDefrost_lockout]
  split <;> simp

theorem outdoorSafe_lockout (s : State) : (outdoorSafe s).outdoor.lockout = s.outdoor.lockout := by
  show Outdoor.lockout (Plant.o (Plant.requestFan _)) = _
  simp

/-! ### The invariant in one piece -/

/-- The invariant of the plant: `CompressorSound`, `ChannelSound` and the duties, with a compressor that stands still
where they say that S is 0. -/
structure State.PlantSound (s : State) : Prop where
  plant : s.plant.Sound
  blocked : s.outdoor.lockout = true ∨ s.out.tripActive = true → s.outdoor.comp.isRunning = false
  role : s.role ≠ .outdoor ∨ s.rst.state ≠ .checked → s.outdoor.comp.isRunning = false
  handler : s.handler.Sound
  blower : s.out.blower.Sound
  bypass : s.out.bypass.Sound

theorem plantSound_iff (s : State) :
    s.PlantSound ↔ CompressorSound s ∧ ChannelSound s ∧ s.handler.Sound ∧ ∀ c, (s.out.pwm c).Sound := by
  constructor
  · rintro ⟨⟨h1, h2, h3, h4, h5, h6, h7, h8⟩, hb, hr, hh, hbl, hby⟩
    refine ⟨⟨h1, h2, h3, h4, h5, fun hx => (h2 (hb hx)).1, hr⟩, ⟨h6, h7⟩, hh, fun c => ?_⟩
    cases c
    · exact hbl
    · exact hby
    · exact h8
  · rintro ⟨⟨h1, h2, h3, h4, h5, hb, hr⟩, ⟨h6, h7⟩, hh, hc⟩
    refine ⟨⟨h1, h2, h3, h4, h5, h6, h7, hc .compressor⟩, fun hx => ?_, hr, hh, hc .blower, hc .bypass⟩
    cases hx' : s.outdoor.comp.isRunning with
    | false => rfl
    | true =>
      have := h1 hx'
      have := hb hx
      omega

/-- The outputs but for what the plant's invariant leaves open: bridge, switched outputs, trip run and blink clock. -/
def Output.SameDuties (o o' : Output) : Prop :=
  o'.blower = o.blower ∧ o'.bypass = o.bypass ∧ o'.compressor = o.compressor ∧ o'.tripHold = o.tripHold ∧
    o'.tripActive = o.tripActive

theorem Output.SameDuties.of_eq {o o' : Output} (h : o' = o) : o.SameDuties o' := h ▸ ⟨rfl, rfl, rfl, rfl, rfl⟩

/-- A station whose compressor stands still keeps its invariant through a change of LOCKOUT, of the role and of the reset
state. -/
theorem State.PlantSound.of_idle {s t : State} (h : s.PlantSound) (hi : s.outdoor.comp.isRunning = false)
    (ho : ∃ trips l, t.outdoor = { s.outdoor with trips := trips, lockout := l }) (hh : t.handler = s.handler)
    (hd : s.out.SameDuties t.out) : t.PlantSound := by
  obtain ⟨hp, hb, hr, hs, hbl, hby⟩ := h
  obtain ⟨d1, d2, d3, d4, d5⟩ := hd
  obtain ⟨trips, l, ho⟩ := ho
  have hi' : t.outdoor.comp.isRunning = false := by rw [ho]; exact hi
  refine ⟨hp.of_eq ?_ ?_ ?_ ?_ ?_ (fun hx => ?_) d3 d4, fun _ => hi', fun _ => hi', hh ▸ hs, d1 ▸ hbl, d2 ▸ hby⟩
  all_goals simp only [State.plant, ho]
  exact (hp.2.1 hi).2

/-- The plant's invariant speaks of the outdoor and handler logic, the duties, the role and the start. -/
theorem State.PlantSound.of_eq {s t : State} (h : s.PlantSound) (ho : t.outdoor = s.outdoor) (hh : t.handler = s.handler)
    (hd : s.out.SameDuties t.out) (hr : t.role = s.role) (hst : t.rst.state ≠ .checked → s.rst.state ≠ .checked) :
    t.PlantSound := by
  obtain ⟨hp, hb, hro, hs, hbl, hby⟩ := h
  obtain ⟨d1, d2, d3, d4, d5⟩ := hd
  refine ⟨hp.of_eq ?_ ?_ ?_ ?_ ?_ (fun hx => ?_) d3 d4, ?_, ?_, hh ▸ hs, d1 ▸ hbl, d2 ▸ hby⟩
  iterate 6 simp only [State.plant, ho]
  · exact (hp.2.1 hx).2
  · rw [ho, d5]; exact hb
  · rw [hr, ho]; exact fun hx => hro (hx.imp id hst)

/-- A station whose plant has become a sound one. -/
theorem State.PlantSound.withPlant {s : State} (h : s.PlantSound) {p : Plant} (hbl : p.out.blower = s.out.blower)
    (hby : p.out.bypass = s.out.bypass) (hp : p.Sound)
    (hb : p.o.comp.isRunning = true → s.outdoor.comp.isRunning = true ∨ s.role = .outdoor ∧ s.rst.state = .checked)
    (hl : p.o.lockout = true ∨ p.out.tripActive = true → p.o.comp.isRunning = false) : (s.withPlant p).PlantSound := by
  refine ⟨hp, hl, fun hx => ?_, h.handler, hbl.symm ▸ h.blower, hby.symm ▸ h.bypass⟩
  by_contra hn
  obtain hr | ⟨hr, hc⟩ := hb (by simpa using hn)
  · rw [h.role hx] at hr; cases hr
  · exact hx.elim (· hr) (· hc)

/-- A move of the plant leaves the handler's channels and the trip filter alone. -/
theorem Plant.Moved.sameOutputs {p q : Plant} (h : p.Moved q) :
    q.out.blower = p.out.blower ∧ q.out.bypass = p.out.bypass ∧ q.out.tripActive = p.out.tripActive := by
  have h1 := congrArg Output.blower h.out
  have h2 := congrArg Output.bypass h.out
  have h3 := congrArg Output.tripActive h.out
  exact ⟨h1, h2, h3⟩

/-- A move of the plant that keeps LOCKOUT and starts nothing under it. -/
theorem State.PlantSound.withMoved {s : State} (h : s.PlantSound) {p : Plant} (hm : s.plant.Moved p) (hp : p.Sound)
    (hb : p.o.comp.isRunning = true → s.outdoor.comp.isRunning = true ∨ s.role = .outdoor ∧ s.rst.state = .checked)
    (hl : p.o.lockout = true ∨ s.out.tripActive = true → p.o.comp.isRunning = false) : (s.withPlant p).PlantSound := by
  obtain ⟨hbl, hby, ht⟩ := hm.sameOutputs
  exact h.withPlant hbl hby hp hb fun hx => hl (hx.imp id fun e => ht ▸ e)

/-! ### The parts of the larger moves -/

theorem pwm_write_sound {c : Pwm} (h : c.Sound) {n : Nat} (hn : n ≤ 1000) : (c.write n).Sound := ⟨h.1, hn⟩

theorem roleRoundStart_plantSound {s : State} (h : s.PlantSound)
    (ht : ∀ arg, s.dir.tests.role = some arg → testArgSound s.role arg) : (roleRoundStart s).PlantSound := by
  unfold roleRoundStart
  split
  · exact h.of_eq rfl rfl ⟨rfl, rfl, rfl, rfl, rfl⟩ rfl id
  · next hr =>
    obtain ⟨hp, hb, hro, ⟨h1, h2, h3, h4, h5⟩, hbl, hby⟩ := h
    have hd : dutyInEffect s.dir.tests.role s.handler.pendingDuty ≤ 1000 := by
      cases hx : s.dir.tests.role with
      | none => exact h1
      | some a =>
        have : testArgSound .handler a := hr ▸ ht a hx
        simp only [testArgSound] at this
        simp only [dutyInEffect]; omega
    exact ⟨hp, hb, hro, ⟨h1, hd, h3, h3, h5⟩, pwm_write_sound hbl hd, pwm_write_sound hby (by omega)⟩
  · next hr =>
    obtain ⟨⟨h1, h2, h3, h4, h5, h6⟩, hb, hro, hs, hbl, hby⟩ := h
    have hct : capacitySound (ctInEffect s.dir.tests.role s.outdoor.pendingCt) := by
      cases hx : s.dir.tests.role with
      | none => exact h5
      | some a =>
        have : testArgSound .outdoor a := hr ▸ ht a hx
        exact this
    exact ⟨⟨h1, h2, h3, hct, h5, h6⟩, hb, hro, hs, hbl, hby⟩
  · exact h

theorem handler_safe_sound {h : Handler} (hs : h.Sound) : h.safe.Sound := by
  obtain ⟨h1, h2, h3, h4, h5, h6, h7, h8⟩ := hs
  exact ⟨Nat.zero_le _, Nat.zero_le _, Nat.le_refl _, Nat.le_refl _, Nat.zero_lt_succ _, h6, h7, Nat.zero_lt_succ _⟩

/-- The outdoor logic in its safe state: no run, no defrost, and the targets at 0 (R162). -/
theorem outdoorSafe_plantSound {s : State} (h : s.PlantSound) : (outdoorSafe s).PlantSound := by
  obtain ⟨h1, h2, h3, h4, h5, h6⟩ := h.plant
  have hstop := forcedStop_sound (p := { s.plant with o := { s.outdoor with pendingCt := 0, ct := 0 } })
    ⟨h1, h2, h3, .inl rfl, .inl rfl, h6⟩
  have hn := forcedStop_notRunning { s.plant with o := { s.outdoor with pendingCt := 0, ct := 0 } }
  refine h.withMoved (outdoorSafe_moved s) ?_ (fun hx => ?_) fun _ => hn
  · exact hstop.of_eq rfl rfl rfl rfl rfl (fun _ => rfl) rfl rfl
  · exact absurd (hn.symm.trans hx) (by decide)

theorem roleSafe_plantSound {s : State} (h : s.PlantSound) : (roleSafe s).PlantSound := by
  unfold roleSafe
  split
  · exact h.of_eq rfl rfl ⟨rfl, rfl, rfl, rfl, rfl⟩ rfl id
  · obtain ⟨hp, hb, hro, hs, hbl, hby⟩ := h
    exact ⟨hp, hb, hro, handler_safe_sound hs, pwm_write_sound hbl (Nat.zero_le _), pwm_write_sound hby (Nat.le_refl _)⟩
  · exact outdoorSafe_plantSound h
  · exact h

/-- A defrost that is aborted leaves a sound plant sound (R157). -/
theorem abortDefrost_sound {p : Plant} (h : p.Sound) (m : Mode) : Plant.Sound { p with o := p.o.abortDefrost m } := by
  unfold Outdoor.abortDefrost
  split
  · exact h.of_eq rfl rfl rfl rfl rfl (fun _ => rfl) rfl rfl
  · exact h

theorem abortDefrost_comp (m : Mode) (o : Outdoor) : (o.abortDefrost m).comp = o.comp := by
  unfold Outdoor.abortDefrost
  split <;> rfl

/-- The outdoor station's accepted round starts nothing (R147, R152, R157). -/
theorem outdoorRound_plantSound {s : State} (h : s.PlantSound) : (outdoorRound s).PlantSound := by
  obtain ⟨h1, h2, h3, h4, h5, h6⟩ := h.plant
  have hp : Plant.Sound { s.plant with o := { s.outdoor with pendingCt := capacityTarget s.mode s.health.view } } :=
    ⟨h1, h2, h3, h4, capacityTarget_sound _ _, h6⟩
  have hrun : (outdoorRound s).outdoor.comp.isRunning = true → s.outdoor.comp.isRunning = true := by
    show (Outdoor.comp (Plant.o (Plant.requestFan _))).isRunning = true → s.outdoor.comp.isRunning = true
    simp only [requestFan_o, abortDefrost_comp]
    split
    · intro hx
      rw [forcedStop_notRunning] at hx; cases hx
    · exact id
  refine h.withMoved (outdoorRound_moved s) ?_ (fun hx => .inl (hrun hx)) (fun hx => ?_)
  · refine requestFan_sound (abortDefrost_sound ?_ _)
    split
    · exact forcedStop_sound hp
    · exact hp
  · have hl : s.outdoor.lockout = true ∨ s.out.tripActive = true := hx.imp (fun e => (outdoorRound_lockout s).symm.trans e) id
    by_contra hn
    exact absurd ((h.blocked hl).symm.trans (hrun (Bool.of_not_eq_false hn))) (by decide)

theorem roleRound_plantSound (z : Settings) {s : State} (h : s.PlantSound) : (roleRound z s).PlantSound := by
  unfold roleRound
  split
  · exact h.of_eq rfl rfl (.of_eq rfl) rfl id
  · obtain ⟨hp, hb, hro, hs, hbl, hby⟩ := h
    refine ⟨hp, hb, hro, handler_round_sound hs _ _ _ (ownFmin_le s) ?_, hbl, hby⟩
    simp only [State.ownFcap]; omega
  · exact outdoorRound_plantSound h
  · exact h

/-- The outdoor station's second tick (R150, R151, R156, R159). -/
theorem outdoorTick_plantSound {s : State} (h : s.PlantSound) (hr : s.role = .outdoor) (hc : s.rst.state = .checked) :
    (outdoorTick s).PlantSound := by
  have hp : Plant.Sound { s.plant with o := { s.outdoor with trips := ageTrips s.outdoor.trips } } :=
    h.plant.of_eq rfl rfl rfl rfl rfl (fun hx => (h.plant.2.1 hx).2) rfl rfl
  have hd := plant_tickDefrost_sound hp s.plantIn
  refine h.withMoved (outdoorTick_moved s) (requestFan_sound (tickCompressor_sound hd _)) (fun _ => .inr ⟨hr, hc⟩)
    (fun hx => ?_)
  have hl : s.outdoor.lockout = true ∨ s.out.tripActive = true := hx.imp (fun e => (outdoorTick_lockout s).symm.trans e) id
  by_contra hn
  obtain hx | ⟨ht, hlo⟩ := running_of_tickCompressor s.plantIn _ (by simpa using hn)
  · rw [(plant_tickDefrost_spec ..).1, (tickDefrost_fields ..).1] at hx
    exact absurd ((h.blocked hl).symm.trans hx) (by decide)
  · rw [plant_tickDefrost_lockout] at hlo
    obtain hl | hl := hl
    · exact absurd (hlo.symm.trans hl) (by decide)
    · exact absurd (ht.symm.trans hl) (by decide)

theorem roleTick_plantSound {s : State} (h : s.PlantSound) (hc : s.rst.state = .checked) : (roleTick s).PlantSound := by
  unfold roleTick
  split
  · exact h.of_eq rfl rfl (.of_eq rfl) rfl id
  · obtain ⟨hp, hb, hro, hs, hbl, hby⟩ := h
    exact ⟨hp, hb, hro, handler_tick_sound hs _ _ _ _ _, hbl, hby⟩
  · next hr => exact outdoorTick_plantSound h hr hc
  · exact h

theorem untrip_notRunning {p : Plant} (h : p.o.comp.isRunning = false) : p.untrip.o.comp.isRunning = false := by
  unfold Plant.untrip
  split
  · dsimp only
    split <;> rfl
  · exact h

theorem untrip_comp_of_running {p : Plant} (h : p.untrip.o.comp.isRunning = true) : p.o.comp.isRunning = true := by
  by_contra hn
  exact absurd ((untrip_notRunning (by simpa using hn)).symm.trans h) (by decide)

@[simp] theorem untrip_lockout (p : Plant) : p.untrip.o.lockout = p.o.lockout := by
  unfold Plant.untrip
  split <;> rfl

/-- The station `s` with the filtered trip input newly at `b`, and what follows from it. -/
theorem tripChanged_plantSound (b : Bool) {s : State} (h : s.PlantSound) :
    (tripChanged { s with out := { s.out with tripActive := b, tripRun := 0 } }).PlantSound := by
  have hidle (hr : s.role ≠ .outdoor) : ({ s with out := { s.out with tripActive := b, tripRun := 0 } } : State).PlantSound :=
    ⟨h.plant, fun _ => h.role (.inl hr), h.role, h.handler, h.blower, h.bypass⟩
  have hp : Plant.Sound ⟨s.outdoor, { s.out with tripActive := b, tripRun := 0 }, s.timers⟩ := h.plant
  unfold tripChanged
  split
  · cases b with
    | true =>
      obtain ⟨hs, hn⟩ := trip_sound hp
      obtain ⟨hbl, hby, -⟩ := (trip_moved ⟨s.outdoor, { s.out with tripActive := true, tripRun := 0 }, s.timers⟩).sameOutputs
      exact h.withPlant hbl hby hs (fun hx => absurd (hn.symm.trans hx) (by decide)) fun _ => hn
    | false =>
      have hu := untrip_moved ⟨s.outdoor, { s.out with tripActive := false, tripRun := 0 }, s.timers⟩
      obtain ⟨hbl, hby, ht⟩ := hu.sameOutputs
      refine h.withPlant hbl hby (untrip_sound hp) (fun hx => .inl (untrip_comp_of_running hx)) fun hx => ?_
      obtain hx | hx := hx
      · exact untrip_notRunning (h.blocked (.inl ((untrip_lockout _).symm.trans hx)))
      · exact absurd (ht.symm.trans hx) Bool.false_ne_true
  · next hr => exact hidle (by rw [show s.role = .handler from hr]; decide)
  · next hr => exact hidle (by rw [show s.role = .zone from hr]; decide)
  · next hr => exact hidle (by rw [show s.role = .absent from hr]; decide)

/-- The trip input's change to active stops the compressor, and one to inactive starts nothing (R153, R166). -/
theorem takeTripSample_plantSound (b : Bool) {s : State} (h : s.PlantSound) : (takeTripSample b s).PlantSound := by
  unfold takeTripSample
  split_ifs
  · exact h.of_eq rfl rfl ⟨rfl, rfl, rfl, rfl, rfl⟩ rfl id
  · exact tripChanged_plantSound b h
  · exact h.of_eq rfl rfl ⟨rfl, rfl, rfl, rfl, rfl⟩ rfl id

theorem endPeriod_plantSound (c : PwmChannel) {s : State} (h : s.PlantSound) : (endPeriod c s).PlantSound := by
  obtain ⟨⟨h1, h2, h3, h4, h5, h6, h7, h8⟩, hb, hro, hs, hbl, hby⟩ := h
  cases c with
  | blower => exact ⟨⟨h1, h2, h3, h4, h5, h6, h7, h8⟩, hb, hro, hs, periodEnd_sound hbl, hby⟩
  | bypass => exact ⟨⟨h1, h2, h3, h4, h5, h6, h7, h8⟩, hb, hro, hs, hbl, periodEnd_sound hby⟩
  | compressor =>
    refine ⟨⟨h1, h2, h3, h4, h5, fun hx => ?_, h7, periodEnd_sound h8⟩, hb, hro, hs, hbl, hby⟩
    show s.out.compressor.periodEnd = .atReset
    rw [show s.out.compressor = .atReset from h6 hx]
    rfl

theorem rehome_duties (s : State) : s.out.SameDuties (rehome s).out := by
  unfold rehome
  split
  · exact ⟨rfl, rfl, rfl, rfl, rfl⟩
  · exact .of_eq rfl

/-- FORCE_DEFROST enters DEFROST in a run, which goes on (R158). -/
theorem enterDefrost_plantSound {s : State} (h : s.PlantSound) (hok : forceDefrostOk s.mode s.outdoor = true) :
    (s.withPlant ({ s.plant with o := s.outdoor.enterDefrost } : Plant).requestFan).PlantSound := by
  have hrun : s.outdoor.comp.isRunning = true := by
    by_contra hn
    have := (h.plant.2.1 (Bool.of_not_eq_true hn)).1
    simp only [forceDefrostOk, decide_eq_true_eq] at hok
    simp only [State.plant] at this
    omega
  have hmoved := (outdoor_moved s.plant s.outdoor.enterDefrost).trans (requestFan_moved _)
  refine h.withMoved hmoved (requestFan_sound (h.plant.of_eq rfl rfl rfl rfl rfl (fun hx => ?_) rfl rfl))
    (fun _ => .inl hrun) h.blocked
  exact absurd (hx.symm.trans hrun) (by decide)

/-- CLEAR_TRIP frees the start; FORCE_DEFROST acts in a run only; nothing else of a directive reaches the plant
(R158, R160). -/
theorem codeEffect_plantSound (c : Code) (arg : Byte) {s : State} (h : s.PlantSound) : (c.effect arg s).1.PlantSound := by
  cases c with
  | zoneSet =>
    simp only [Code.effect, effectZoneSet]
    split <;> exact h.of_eq rfl rfl (.of_eq rfl) rfl id
  | testDamper =>
    refine h.of_eq (rehome_outdoor s) (rehome_handler s) ?_ (congrArg (fun r : ResetBlock => roleOf r.address) (rehome_rst s)) ?_
    · exact rehome_duties s
    · exact fun hx => (congrArg ResetBlock.state (rehome_rst s)) ▸ hx
  | forceDefrost =>
    simp only [Code.effect, effectForceDefrost]
    split
    · next hok => exact enterDefrost_plantSound h hok
    · exact h
  | clearTrip =>
    obtain ⟨hp, hb, hro, hs, hbl, hby⟩ := h
    exact ⟨hp, fun hx => hb (.inr (hx.resolve_left nofun)), hro, hs, hbl, hby⟩
  | _ => exact h.of_eq rfl rfl (.of_eq rfl) rfl id

theorem execute_plantSound (d : Directive) {s : State} (h : s.PlantSound) : (execute d s).PlantSound := by
  have key : (carryOut d s).1.PlantSound := by
    obtain e | ⟨c, -, e⟩ := carryOut_cases d s <;> rw [e]
    · exact h
    · exact codeEffect_plantSound c d.arg h
  exact key.of_eq rfl rfl (.of_eq rfl) rfl id

/-- The release of a reset decides on LOCKOUT while the compressor stands still (R163). -/
theorem releaseReset_plantSound {s : State} (h : s.PlantSound) : (releaseReset s).PlantSound := by
  unfold releaseReset
  split
  · next ha =>
    refine h.of_idle (h.role (.inr (by rw [ha.1]; decide))) ?_ ?_ (.of_eq ?_) <;> unfold kindValues <;> split
    · exact ⟨_, _, rfl⟩
    · exact ⟨_, _, rfl⟩
    all_goals rfl
  · exact h

/-- The straps that latch reach none of the duties: they start the damper machine at most (R187). -/
theorem latchStraps_duties (a p : Nibble) (s : State) : s.out.SameDuties (latchStraps a p s).out := by
  have hrole (x : State) (hx : x.out = s.out) : s.out.SameDuties (startRole x).out := by
    unfold startRole
    rw [← hx]
    split <;> exact ⟨rfl, rfl, rfl, rfl, rfl⟩
  unfold latchStraps
  dsimp only
  split
  · exact hrole _ (by simp [startMeasurement, enterListen])
  · exact .of_eq (by simp)

/-! ### The moves -/

theorem Move.keeps_plant {s t : State} (m : Move s t) (hu : UnitSound s) (h : s.PlantSound) :
    t.PlantSound := by
  cases m with
  | asserts =>
    refine ⟨?_, fun _ => rfl, fun _ => rfl, ?_, ⟨Nat.zero_le _, Nat.zero_le _⟩, ⟨Nat.zero_le _, Nat.zero_le _⟩⟩
    · exact ⟨nofun, fun _ => ⟨rfl, rfl⟩, nofun, .inl rfl, .inl rfl, fun _ => rfl, nofun, Nat.zero_le _, Nat.zero_le _⟩
    · simp [assertReset, blocksAtReset, Handler.Sound, Handler.atReset]
  | sources _ r hs ha => exact h.of_eq rfl rfl (.of_eq rfl) (congrArg roleOf ha) fun e => hs ▸ e
  | releases => exact releaseReset_plantSound h
  | latches a p _ hs =>
    refine h.of_idle (h.role (.inr (by rw [hs]; decide))) ?_ (by simp) (latchStraps_duties a p s)
    rw [latchStraps_outdoor]
    split
    · exact ⟨_, _, rfl⟩
    · exact ⟨_, _, rfl⟩
  | roleStarts => exact roleRoundStart_plantSound h hu.2.2.2.1
  | isolates clash => exact roleSafe_plantSound (h.of_eq rfl rfl (.of_eq rfl) rfl id)
  | executes d => exact execute_plantSound d h
  | roleRounds z => exact roleRound_plantSound z h
  | roleTicks _ hc => exact roleTick_plantSound h hc
  | tripSamples b => exact takeTripSample_plantSound b h
  | periods c => exact endPeriod_plantSound c h
  | intervals l => cases l <;> exact h.of_eq rfl rfl ⟨rfl, rfl, rfl, rfl, rfl⟩ rfl id
  | _ => exact h.of_eq (by simp) (by simp) ⟨by simp, by simp, by simp, by simp, by simp⟩ (by simp [State.role]) (by simp)

/-- The invariants of the link, the directive unit and the plant together. -/
theorem Move.keeps_link_unit_plant {s t : State} (m : Move s t) (h : LinkSound s ∧ UnitSound s ∧ s.PlantSound) :
    LinkSound t ∧ UnitSound t ∧ t.PlantSound := by
  obtain ⟨hl, hu, hp⟩ := h
  exact ⟨m.keeps_link hl, m.keeps_unit hl hu, m.keeps_plant hu hp⟩

/-- Settles O58: move by move, each move of the plant by its law. -/
theorem plantStaysSound : Obligations.PlantStaysSound := by
  intro s t hs h
  have key := step_keeps (P := fun s => LinkSound s ∧ UnitSound s ∧ s.PlantSound) Move.keeps_link_unit_plant
    (fun _ _ h => ⟨h.1, h.2.1, h.2.2.of_eq rfl rfl (.of_eq rfl) rfl id⟩) (by simpa only [plantSound_iff] using hs) h
  simpa only [plantSound_iff] using key

end Sys2Proof.Machine

/-! O1, O3 to O7, O51. Steps, resets and the line's runs. -/

namespace Sys2Proof.Machine

/-- Settles O1: a step is the front command, or one microsecond, by its definition. -/
theorem stepRunsTheFrontCommand : Obligations.StepRunsTheFrontCommand := by
  refine ⟨fun c rest s => rfl, fun s hs => ?_, fun n s => rfl, fun t limit s => rfl⟩
  unfold step
  rw [hs]

/-- The line is at rest after power-on, in QUIET (R6, R58). -/
theorem reset_linkSound : LinkSound State.reset :=
  ⟨nofun, fun _ => rfl, ⟨nofun, fun h => absurd rfl h⟩, nofun, ⟨nofun, nofun⟩, nofun⟩

theorem reset_countsSound : State.reset.health.CountsSound := by
  simp [State.reset, Health.CountsSound, Health.atReset]

theorem reset_unitSound : UnitSound State.reset :=
  DirectiveUnit.sound_of_empty State.reset.dir rfl rfl ⟨Nat.zero_le 3, nofun⟩

/-- The compressor stands still after power-on, with the minimum off time before it (R163). -/
theorem reset_plantSound : State.reset.PlantSound where
  plant := ⟨nofun, fun _ => ⟨rfl, rfl⟩, nofun, .inl rfl, .inl rfl, fun _ => rfl, nofun, Nat.zero_le _, Nat.zero_le _⟩
  blocked _ := rfl
  role _ := rfl
  handler := by simp [State.reset, Handler.Sound, Handler.atReset]
  blower := ⟨Nat.zero_le _, Nat.zero_le _⟩
  bypass := ⟨Nat.zero_le _, Nat.zero_le _⟩

/-- Settles O51: block by block, from the reset values. -/
theorem resetMeetsTheInvariants : Obligations.ResetMeetsTheInvariants := by
  obtain ⟨hcomp, hchan, hhand, hpwm⟩ := (plantSound_iff _).1 reset_plantSound
  exact ⟨rfl, rfl, default_sound, reset_linkSound, reset_countsSound, rest_sound, reset_unitSound,
    reset_zone_sound _, damperSound_of_reset rfl rfl, hcomp, hchan, reset_meas_sound.1, reset_meas_sound.2, hhand, hpwm⟩

/-- Settles O7: without a round being read, a sync moves the receive state alone. -/
theorem runsBetweenRoundsAreMeasured : Obligations.RunsBetweenRoundsAreMeasured := by
  refine ⟨fun s hd => ?_, fun s data frame hq hd hr => ?_⟩
  · simp only [exec, execDominantRunLeadingEdge, hd, State.receives, Timer.started]
    by_cases hq : s.health.link = .quiet <;> simp [hq]
  · have hrec : s.receives = true := by simpa [State.receives] using hq
    have hin : ¬ (elapseTo s.timers.run (Config.bitsUs Config.syncBits) s).line.rx.inRound = true := by
      rw [elapseTo_inRound, hr]; decide
    have hne : s.line.rx ≠ .syncSeen := by rw [hr]; decide
    simp only [exec, execSyncRecognised]
    rw [if_pos ⟨hrec, hd, hne⟩, if_neg hin]
    rfl

end Sys2Proof.Machine

/-! SUPPORT and O4 to O6. Assertion and release of reset, and the start (R184 to R187). -/

namespace Sys2Proof.Machine

/-! ### Assertion (R184, R185) -/

/-- An assertion leaves every block at its reset values, with settings, trip history and LOCKOUT kept (R185). -/
theorem assertReset_values (k : ResetKind) {s u : State} (hz : u.zone.settings = s.zone.settings)
    (ht : u.outdoor.trips = s.outdoor.trips) (hl : u.outdoor.lockout = s.outdoor.lockout) :
    ResetValues s (assertReset k u) := by
  refine ⟨⟨rfl, rfl, rfl, rfl⟩, ⟨rfl, rfl⟩, ?_, ?_, ⟨rfl, rfl⟩, ?_, ?_, rfl, rfl, ?_, ?_, rfl, rfl, rfl, rfl⟩
  · exact ⟨rfl, rfl, rfl, rfl, rfl, rfl, rfl, rfl, rfl, rfl, rfl, rfl, rfl, rfl⟩
  · intro ch
    cases ch <;> exact ⟨rfl, rfl, rfl⟩
  · exact ⟨hz, rfl, rfl, rfl, rfl, rfl, rfl, rfl, rfl, rfl⟩
  · exact ⟨rfl, rfl, rfl, rfl, rfl, rfl, rfl, rfl, rfl, rfl, rfl, rfl, rfl, rfl⟩
  · rw [← ht, ← hl]; rfl
  · refine ⟨fun c => ?_, rfl, rfl, rfl, fun l => ?_, rfl, rfl⟩
    · cases c <;> rfl
    · cases l <;> exact ⟨rfl, rfl⟩

theorem kindAfter_supply (r : ResetBlock) : r.kindAfter .supply = .supply := by
  unfold ResetBlock.kindAfter
  split <;> rfl

/-- The station as the next supply sample finds it (R184). -/
def toSupplySample (s : State) : State :=
  { elapseTo s.timers.supplyClock Config.supplySampleUs s with
    timers := { (elapseTo s.timers.supplyClock Config.supplySampleUs s).timers with supplyClock := .started } }

theorem supplySample_eq (mv : Nat) (s : State) : supplySample mv s = takeSupplySample mv (toSupplySample s) := rfl

@[simp] theorem toSupplySample_rst (s : State) : (toSupplySample s).rst = s.rst := rfl

/-- The fourth low sample in a row asserts reset (R184). -/
theorem takeSupplySample_asserts {mv : Nat} {s : State} (hh : s.rst.supplyHeld = false) (hc : s.rst.lowCount = 3)
    (hmv : mv < Config.supplyLowMv) :
    takeSupplySample mv s = assertReset .supply { s with rst := { s.rst with monitor := true, lowCount := 4 } } := by
  unfold takeSupplySample
  rw [if_neg (by simp [hh]), if_pos hmv, if_pos (by omega)]

/-- Outside a reset by supply a low sample short of the fourth counts (R184). -/
theorem takeSupplySample_counts {mv : Nat} {s : State} (hh : s.rst.supplyHeld = false) (hc : s.rst.lowCount < 3)
    (hmv : mv < Config.supplyLowMv) :
    takeSupplySample mv s = { s with rst := { s.rst with lowCount := s.rst.lowCount + 1 } } := by
  unfold takeSupplySample
  rw [if_neg (by simp [hh]), if_pos hmv, if_neg (by omega)]

/-- Outside a reset by supply a good sample returns the count to 0 (R184). -/
theorem takeSupplySample_good {mv : Nat} {s : State} (hh : s.rst.supplyHeld = false) (hmv : Config.supplyLowMv ≤ mv) :
    takeSupplySample mv s = { s with rst := { s.rst with lowCount := 0 } } := by
  unfold takeSupplySample
  rw [if_neg (by simp [hh]), if_neg (Nat.not_lt.2 hmv)]

/-- Within a reset by supply a sample below 3.0 V changes nothing (R184). -/
theorem takeSupplySample_held {mv : Nat} {s : State} (hh : s.rst.supplyHeld = true) (hmv : mv < Config.supplyGoodMv) :
    takeSupplySample mv s = s := by
  unfold takeSupplySample
  rw [if_pos hh, if_neg (Nat.not_le.2 hmv)]

/-- Within a reset by supply a sample of 3.0 V or more lets go (R184). -/
theorem takeSupplySample_releases {mv : Nat} {s : State} (hh : s.rst.supplyHeld = true) (hmv : Config.supplyGoodMv ≤ mv) :
    takeSupplySample mv s =
      releaseReset { s with rst := { s.rst with powerOn := false, monitor := false, lowCount := 0 } } := by
  unfold takeSupplySample
  rw [if_pos hh, if_pos hmv]

/-- Settles O4: source by source, each by its assertion, and a supply sample by its four cases. -/
theorem everySourceAssertsReset : Obligations.EverySourceAssertsReset := by
  refine ⟨fun s => ⟨?_, fun hp => ?_, fun hc => ?_, fun hh hl => ?_⟩, fun s mv => ⟨fun hh hmv => ?_, fun hh hmv hl => ?_, fun hh hmv => ?_⟩⟩
  · exact ⟨_, rfl, rfl, kindAfter_supply _, rfl, rfl, assertReset_values .supply rfl rfl rfl⟩
  · simp only [exec, execResetPinLow, hp]
    exact ⟨_, rfl, rfl, rfl, rfl, rfl, rfl, rfl, assertReset_values .pin rfl rfl rfl⟩
  · simp only [exec, execChordReset, hc, if_true]
    exact ⟨_, rfl, rfl, rfl, rfl, rfl, rfl, rfl, rfl, assertReset_values .pin rfl rfl rfl⟩
  · have key (mv : Nat) (hmv : mv < 2700) : ∃ t, supplySample mv s = t ∧ t.rst.state = .asserted ∧
        t.rst.kind = .supply ∧ t.rst.monitor = true ∧ t.rst.lowCount = 4 ∧ ResetValues s t := by
      rw [supplySample_eq, takeSupplySample_asserts (s := toSupplySample s) hh hl hmv]
      exact ⟨_, rfl, rfl, kindAfter_supply _, rfl, rfl, assertReset_values .supply rfl rfl rfl⟩
    refine ⟨fun mv hmv => ?_, ?_⟩
    · obtain ⟨t, ht, h⟩ := key mv hmv
      exact ⟨t, congrArg Host.Outcome.next ht, h⟩
    · obtain ⟨t, ht, h⟩ := key 0 (by decide)
      refine ⟨t, ?_, h⟩
      simp only [exec, execSupplyMonitorReset]
      rw [if_pos ⟨hh, hl⟩, ht]
  · exact congrArg Host.Outcome.next (takeSupplySample_good (s := toSupplySample s) hh hmv)
  · exact congrArg Host.Outcome.next (takeSupplySample_counts (s := toSupplySample s) hh hl hmv)
  · exact congrArg Host.Outcome.next (takeSupplySample_held (s := toSupplySample s) hh hmv)

/-! ### Release (R184 to R186) -/

theorem kindValues_supply {s : State} (h : s.rst.kind = .supply) :
    kindValues s =
      { s with
        zone := { s.zone with settings := .default }
        outdoor := { s.outdoor with trips := [], lockout := false } } := by
  unfold kindValues
  rw [h]

theorem kindValues_pin {s : State} (h : s.rst.kind ≠ .supply) : kindValues s = s := by
  unfold kindValues
  cases hk : s.rst.kind with
  | supply => exact absurd hk h
  | pin => rfl

/-- What follows when a source has let go and shows so in `u` (R186): the reset goes on while another one asserts, and is
released otherwise, by the kind of the reset. -/
theorem releaseReset_spec {u : State} (ha : u.rst.state = .asserted) :
    (releaseReset u).rst.supplyHeld = u.rst.supplyHeld ∧ (releaseReset u).rst.lowCount = u.rst.lowCount ∧
      (releaseReset u).rst.pin = u.rst.pin ∧ (releaseReset u).rst.chord = u.rst.chord ∧
      (releaseReset u).rst.kind = u.rst.kind ∧ (releaseReset u).health = u.health ∧
      if (releaseReset u).rst.held = true then
        (releaseReset u).rst.state = .asserted ∧ (releaseReset u).zone = u.zone ∧ (releaseReset u).outdoor = u.outdoor
      else
        (releaseReset u).rst.state = .settling ∧
          ((releaseReset u).timers.settle = ⟨true, 0⟩ ∧ (releaseReset u).timers.round = ⟨true, 0⟩ ∧
            (releaseReset u).timers.second = ⟨true, 0⟩ ∧ (releaseReset u).timers.pwmBlower = ⟨true, 0⟩ ∧
            (releaseReset u).timers.pwmBypass = ⟨true, 0⟩ ∧ (releaseReset u).timers.pwmCompressor = ⟨true, 0⟩ ∧
            (releaseReset u).timers.bridge = ⟨true, 0⟩ ∧ (releaseReset u).timers.blink = ⟨true, 0⟩) ∧
          if u.rst.kind = .supply then
            (releaseReset u).zone = { u.zone with settings := ⟨240, 200, 550, .auto⟩ } ∧
              (releaseReset u).outdoor = { u.outdoor with trips := [], lockout := false }
          else (releaseReset u).zone = u.zone ∧ (releaseReset u).outdoor = u.outdoor := by
  unfold releaseReset
  by_cases hh : u.rst.held = true
  · rw [if_neg (by simp [hh])]
    exact ⟨rfl, rfl, rfl, rfl, rfl, rfl, by rw [if_pos hh]; exact ⟨ha, rfl, rfl⟩⟩
  · have hh' : u.rst.held = false := by simpa using hh
    rw [if_pos ⟨ha, hh'⟩]
    refine ⟨rfl, rfl, rfl, rfl, rfl, ?_, ?_⟩
    · unfold kindValues; split <;> rfl
    · refine (if_neg hh).mpr ⟨rfl, ⟨rfl, rfl, rfl, rfl, rfl, rfl, rfl, rfl⟩, ?_⟩
      by_cases hk : u.rst.kind = .supply
      · rw [if_pos hk, kindValues_supply hk]
        exact ⟨rfl, rfl⟩
      · rw [if_neg hk, kindValues_pin hk]
        exact ⟨rfl, rfl⟩

/-- Settles O5: each source's release is the release of what it leaves. -/
theorem lastSourceReleasesReset : Obligations.LastSourceReleasesReset := by
  intro s ha c hc
  obtain ⟨hc, hh⟩ | ⟨rfl, hp⟩ | ⟨rfl, hp⟩ := hc
  · have key (mv : Nat) (hmv : 3000 ≤ mv) := takeSupplySample_releases (s := toSupplySample s) hh hmv
    obtain ⟨h1, h2, h3, h4, h5, h6, h7⟩ := releaseReset_spec (u := { toSupplySample s with
      rst := { s.rst with powerOn := false, monitor := false, lowCount := 0 } }) ha
    obtain rfl | ⟨mv, hmv, rfl⟩ := hc
    · refine ⟨_, ?_, fun _ => ⟨h1, h2, h3, h4⟩, nofun, nofun, h5, h6, h7⟩
      simp only [exec, execSupplyMonitorRelease, hh, if_true]
      exact congrArg Host.Outcome.next (key _ (Nat.le_refl _))
    · exact ⟨_, congrArg Host.Outcome.next (key mv hmv), fun _ => ⟨h1, h2, h3, h4⟩, nofun, nofun, h5, h6, h7⟩
  · obtain ⟨h1, -, h3, h4, h5, h6, h7⟩ := releaseReset_spec (u := { s with rst := { s.rst with pin := false } }) ha
    refine ⟨_, ?_, nofun, fun _ => ⟨h3, h1, h4⟩, nofun, h5, h6, h7⟩
    simp only [exec, execResetPinHigh, hp, if_true]
  · obtain ⟨h1, -, h3, h4, h5, h6, h7⟩ := releaseReset_spec (u :=
      { elapseTo s.timers.chordHold Config.chordHoldUs s with
        rst := { s.rst with chord := false }
        timers := { (elapseTo s.timers.chordHold Config.chordHoldUs s).timers with chordHold := .stopped } }) ha
    refine ⟨_, ?_, nofun, nofun, fun _ => ⟨h4, h1, h3⟩, h5, h6, h7⟩
    simp only [exec, execChordResetRelease, hp, if_true]
    rfl

/-! ### The start (R186, R187) -/

theorem roleOf_eq_outdoor_iff (a : Nibble) : roleOf a = .outdoor ↔ a = 1 := by revert a; decide
theorem roleOf_eq_handler_iff (a : Nibble) : roleOf a = .handler ↔ a = 2 := by revert a; decide
theorem roleOf_eq_absent_iff (a : Nibble) : roleOf a = .absent ↔ a = 0 ∨ a = 15 := by revert a; decide
theorem roleOf_eq_zone_iff (a : Nibble) : roleOf a = .zone ↔ 3 ≤ a.toNat ∧ a.toNat ≤ 14 := by revert a; decide

theorem strapsPass_iff (a p : Nibble) :
    strapsPass a p = true ↔ 1 ≤ a.toNat ∧ a.toNat ≤ 2 ∨ 3 ≤ a.toNat ∧ a.toNat ≤ 14 ∧ p ≠ 0 := by
  revert a p; decide

theorem foreign_iff (a : Nibble) : roleOf a = .zone ∨ roleOf a = .handler ↔ 2 ≤ a.toNat ∧ a.toNat ≤ 14 := by
  revert a; decide

/-- Homing starts (R126): the machine drives toward the stop, or waits out the pause before it. -/
theorem startHoming_fields (m : Motor) :
    m.startHoming.d.seeking = true ∧ m.startHoming.d.homed = false ∧ m.startHoming.t.homing = ⟨true, 0⟩ ∧
      m.startHoming.t.keyClock = m.t.keyClock ∧ m.startHoming.t.round = m.t.round ∧
      m.startHoming.t.settle = m.t.settle := by
  unfold Motor.startHoming
  dsimp only
  split <;> simp [Motor.drive, Damper.seeking, Timer.started, Motor.ask]

/-- What a role starts at the entry to LISTEN after start-up (R187). -/
theorem startRole_spec (s : State) :
    (startRole s).timers.round = s.timers.round ∧ (startRole s).timers.settle = s.timers.settle ∧
      (startRole s).timers.keyClock = s.timers.keyClock ∧
      (s.role = .zone → (startRole s).damper.seeking = true ∧ (startRole s).damper.homed = false ∧
        (startRole s).timers.homing = ⟨true, 0⟩) ∧
      (s.role = .outdoor ∨ s.role = .handler →
        (startRole s).timers.tripClock = ⟨true, 0⟩ ∧ (startRole s).damper = s.damper) := by
  unfold startRole
  cases hr : s.role with
  | zone =>
    obtain ⟨h1, h2, h3, h4, h5, h6⟩ := startHoming_fields s.motor
    exact ⟨h5, h6, h4, fun _ => ⟨h1, h2, h3⟩, nofun⟩
  | handler => exact ⟨rfl, rfl, rfl, nofun, fun _ => ⟨rfl, rfl⟩⟩
  | outdoor => exact ⟨rfl, rfl, rfl, nofun, fun _ => ⟨rfl, rfl⟩⟩
  | absent => exact ⟨rfl, rfl, rfl, nofun, nofun⟩

/-- The station with the straps latched, before anything starts (R186). -/
def strapped (a p : Nibble) (st : ResetState) (s : State) : State :=
  startKeys
    (clearForeignTrips
      { s with
        rst := { s.rst with address := a, parameter := p, state := st }
        timers := { s.timers with settle := .stopped } })

theorem strapped_keyClock (a p : Nibble) (st : ResetState) (s : State) :
    (strapped a p st s).timers.keyClock = if roleOf a = .zone then ⟨true, 0⟩ else s.timers.keyClock := by
  unfold strapped startKeys
  simp only [State.role, clearForeignTrips_rst]
  split <;> simp [Timer.started]

theorem strapped_settle (a p : Nibble) (st : ResetState) (s : State) :
    (strapped a p st s).timers.settle = ⟨false, 0⟩ := by
  unfold strapped startKeys
  split <;> simp [Timer.stopped]

theorem latchStraps_pass {a p : Nibble} (h : strapsPass a p = true) (s : State) :
    latchStraps a p s = startRole (startMeasurement (enterListen (strapped a p .checked s))) := by
  simp [latchStraps, strapped, h]

theorem latchStraps_fail {a p : Nibble} (h : strapsPass a p = false) (s : State) :
    latchStraps a p s = strapped a p .failed s := by
  simp [latchStraps, strapped, h]

theorem exec_settleTimer_of_settling {s : State} (h : s.rst.state = .settling) (a p : Nibble) :
    exec (.settleTimer a p) s = .next (latchStraps a p (elapseTo s.timers.settle Config.settleUs s)) := by
  simp only [exec, execSettleTimer, h, if_true]

/-- What the straps leave of the outdoor logic, in the addresses' own numbers (R159, chapter 9). -/
theorem latchStraps_outdoor_address (a p : Nibble) (s : State) :
    (latchStraps a p s).outdoor =
      if 2 ≤ a.toNat ∧ a.toNat ≤ 14 then { s.outdoor with trips := [], lockout := false } else s.outdoor := by
  rw [latchStraps_outdoor]
  simp only [foreign_iff]

theorem clearForeignTrips_eq (s : State) : clearForeignTrips s = { s with outdoor := (clearForeignTrips s).outdoor } := by
  unfold clearForeignTrips
  split <;> rfl

/-- A station whose straps fail differs from what it was in the reset block, the trips, the settle timer and the key clock
alone (R186). -/
theorem strapped_frame (a p : Nibble) (st : ResetState) (s : State) :
    { strapped a p st s with
      rst := s.rst, outdoor := s.outdoor
      timers := { (strapped a p st s).timers with settle := s.timers.settle, keyClock := s.timers.keyClock } } = s := by
  unfold strapped startKeys
  rw [clearForeignTrips_eq]
  split <;> rfl

/-- The station at the latch of straps that pass, with all but its role started (R49, R72, R187). -/
def listening (a p : Nibble) (s : State) : State := startMeasurement (enterListen (strapped a p .checked s))

@[simp] theorem listening_role (a p : Nibble) (s : State) : (listening a p s).role = roleOf a := by
  simp [listening, strapped, startMeasurement, State.role]

@[simp] theorem listening_damper (a p : Nibble) (s : State) : (listening a p s).damper = s.damper := by
  simp [listening, strapped, startMeasurement]

theorem strapsPass_eq_false_iff (a p : Nibble) :
    strapsPass a p = false ↔ a = 0 ∨ a = 15 ∨ 3 ≤ a.toNat ∧ a.toNat ≤ 14 ∧ p = 0 := by
  revert a p; decide

/-- Straps that fail light FAULT at once (R93). -/
theorem faultIndicator_of_failed {s : State} (h : s.rst.state = .failed) : s.faultIndicator = .on := by
  simp [State.faultIndicator, State.standingFault, State.configFault, h]

/-- Settles O6: the straps' latch, on a pass and on a fault. -/
theorem strapsDecideTheStart : Obligations.StrapsDecideTheStart := by
  intro s a p hs
  refine ⟨fun hp => ⟨_, exec_settleTimer_of_settling hs a p, ?_⟩, fun hf => ⟨_, exec_settleTimer_of_settling hs a p, ?_⟩⟩
  · have hpass := (strapsPass_iff a p).2 hp
    have hout := latchStraps_outdoor_address a p (elapseTo s.timers.settle Config.settleUs s)
    have hpresent : roleOf a ≠ .absent := fun h => by simp [strapsPass, h] at hpass
    have hl : latchStraps a p (elapseTo s.timers.settle Config.settleUs s) =
        startRole (listening a p (elapseTo s.timers.settle Config.settleUs s)) := latchStraps_pass hpass _
    rw [hl] at hout ⊢
    obtain ⟨hround, hsettle, hkey, hzone, htrip⟩ :=
      startRole_spec (listening a p (elapseTo s.timers.settle Config.settleUs s))
    have hrole : (startRole (listening a p (elapseTo s.timers.settle Config.settleUs s))).role = roleOf a := by
      simp [State.role, listening, strapped, startMeasurement]
    rw [listening_role] at hzone htrip
    rw [hrole]
    refine ⟨?_, ?_, ?_, ?_, ?_, ?_, ?_, hround.trans rfl, hsettle.trans (strapped_settle ..), ?_, ?_, fun h => ?_, fun h => ?_,
      fun h => ?_, fun h => ⟨?_, hzone h⟩, fun h => ?_, ?_, hout, ?_, ?_⟩
    · simp [elapseTo, listening, strapped, startMeasurement]
    · simp [elapseTo, listening, startMeasurement]
    · simp [elapseTo, listening, startMeasurement, enterListen, Health.toListen]
    · simp [elapseTo, listening, startMeasurement, enterListen, Health.toListen]
    · simp [elapseTo, listening, startMeasurement, enterListen, Health.toListen, strapped]
    · simp [elapseTo, listening, startMeasurement, enterListen, LineBlock.toListen]
    · simp [elapseTo, listening, startMeasurement, enterListen, LineBlock.toListen]
    · simp [elapseTo, listening, startMeasurement, strapped]
    · simp [elapseTo, listening, startMeasurement, strapped]
    · exact (roleOf_eq_outdoor_iff a).2 h
    · exact (roleOf_eq_handler_iff a).2 h
    · exact (roleOf_eq_zone_iff a).2 ⟨h, by omega⟩
    · exact hkey.trans ((strapped_keyClock ..).trans (if_pos h))
    · have hr : roleOf a = .outdoor ∨ roleOf a = .handler := by
        cases hx : roleOf a <;> simp [hx] at h hpresent ⊢
      obtain ⟨h1, h2⟩ := htrip hr
      exact ⟨h1, h2.trans (listening_damper ..)⟩
    · simp [elapseTo, listening, startMeasurement, enterListen, strapped]
    · simp [elapseTo, listening, startMeasurement, strapped]
    · simp [elapseTo, listening, startMeasurement, strapped]
  · have hfail := (strapsPass_eq_false_iff a p).2 hf
    have hout := latchStraps_outdoor_address a p (elapseTo s.timers.settle Config.settleUs s)
    rw [latchStraps_fail hfail] at hout ⊢
    have hrst : (strapped a p .failed (elapseTo s.timers.settle Config.settleUs s)).rst =
        { s.rst with state := .failed, address := a, parameter := p } := by simp [elapseTo, strapped]
    refine ⟨hrst, faultIndicator_of_failed (by rw [hrst]), hout, ?_, strapped_frame ..⟩
    rw [strapped_keyClock]
    by_cases h : a = 0 ∨ a = 15
    · rw [if_pos h, if_neg (by rw [(roleOf_eq_absent_iff a).2 h]; decide)]
    · rw [if_neg h, if_pos ((roleOf_eq_zone_iff a).2 ?_)]
      obtain h0 | h15 | ⟨h3, h14, -⟩ := hf
      · exact absurd (.inl h0) h
      · exact absurd (.inr h15) h
      · exact ⟨h3, h14⟩

end Sys2Proof.Machine

/-! SUPPORT and O20 to O24. The directive rows: each is the effect of its code, answered (R177 to R179). -/

namespace Sys2Proof.Machine

theorem codeOf_number (c : Code) : codeOf c.number = some c := by cases c <;> rfl

theorem acceptedCode_number {c : Code} {r : Role} {arg : Byte} (src dst : Nibble) (hr : c.forRole r = true)
    (ha : c.argOk arg = true) : acceptedCode r ⟨src, dst, c.number, arg⟩ = some c := by
  simp [acceptedCode, codeOf_number, hr, ha]

theorem acceptedCode_refused {c : Code} {r : Role} {arg : Byte} (src dst : Nibble)
    (h : c.forRole r = false ∨ c.argOk arg = false) : acceptedCode r ⟨src, dst, c.number, arg⟩ = none := by
  obtain h | h := h <;> simp [acceptedCode, codeOf_number, h]

/-- The station `u` that a directive's effect leaves of a station at the address `a`, with the answer DONE and the data
`x` (R177, R178). -/
def State.answered (u : State) (a : Nibble) (d : Directive) (x : Byte) : State :=
  { u with
    dir := { u.dir with
      tracker := ⟨some d, 3, some ⟨true, x⟩⟩
      reply := if d.dest = a then some ⟨2, x⟩ else none } }

/-- The station at the address `a` that has refused a directive: UNABLE with its argument (R177, R178). -/
def State.refused (s : State) (a : Nibble) (d : Directive) : State :=
  { s with
    dir := { s.dir with
      tracker := ⟨some d, 3, some ⟨false, d.arg⟩⟩
      reply := if d.dest = a then some ⟨3, d.arg⟩ else none } }

theorem refused_unable (s : State) (d : Directive) : ExecutedUnable d s (s.refused s.rst.address d) :=
  ⟨rfl, rfl, rfl, rfl, rfl⟩

theorem answered_done {s u : State} (d : Directive) (x : Byte) (hq : u.dir.queue = s.dir.queue) :
    ExecutedDone d x s (u.answered s.rst.address d x) := ⟨rfl, rfl, hq⟩

/-- An execution that can be carried out is answered DONE. -/
theorem oweReply_execute_done {c : Code} {d : Directive} {s u : State} {x : Byte} (hc : acceptedCode s.role d = some c)
    (he : c.effect d.arg s = (u, some x)) : oweReply d (execute d s) = u.answered s.rst.address d x := by
  have hr : u.rst = s.rst := by rw [← codeEffect_rst c d.arg s, he]
  simp [oweReply, owedReply, execute, carryOut, hc, he, resultOf, replyOf, State.answered, hr]

/-- An execution that cannot be carried out is answered UNABLE. -/
theorem oweReply_execute_unable {c : Code} {d : Directive} {s : State} (hc : acceptedCode s.role d = some c)
    (he : c.effect d.arg s = (s, none)) : oweReply d (execute d s) = s.refused s.rst.address d := by
  simp [oweReply, owedReply, execute, carryOut, hc, he, resultOf, replyOf, State.refused]

/-- A directive that is refused at reception is answered UNABLE. -/
theorem oweReply_execute_refused {d : Directive} {s : State} (hc : acceptedCode s.role d = none) :
    oweReply d (execute d s) = s.refused s.rst.address d := by
  simp [oweReply, owedReply, execute, carryOut, hc, resultOf, replyOf, State.refused]

/-- A directive row whose code is the station's, with an argument in its set, leaves the effect, answered. -/
theorem runDirective_done {c : Code} {src dst : Nibble} {arg : Byte} {s u : State} {x : Byte} (h : Heard src dst s)
    (hr : c.forRole s.role = true) (ha : c.argOk arg = true) (he : c.effect arg s = (u, some x)) :
    runDirective c src dst arg s = u.answered s.rst.address ⟨src, dst, c.number, arg⟩ x :=
  (runDirective_heard h).trans (oweReply_execute_done (acceptedCode_number src dst hr ha) he)

/-- A directive row that is not the station's, or has an argument outside its set, is refused. -/
theorem runDirective_refused {c : Code} {src dst : Nibble} {arg : Byte} {s : State} (h : Heard src dst s)
    (hr : c.forRole s.role = false ∨ c.argOk arg = false) :
    runDirective c src dst arg s = s.refused s.rst.address ⟨src, dst, c.number, arg⟩ :=
  (runDirective_heard h).trans (oweReply_execute_refused (acceptedCode_refused src dst hr))

theorem settingOfCode_le {n : Nat} {x : ZoneSetting} (h : settingOfCode n = some x) : n ≤ 3 := by
  unfold settingOfCode at h
  split at h <;> simp at h ⊢

/-- Settles O20: each setting directive is its code's effect on the settings. -/
theorem settingDirectivesSetTheZone : Obligations.SettingDirectivesSetTheZone := by
  intro s src dst arg h hz
  have hr : decide (s.role = .zone) = true := decide_eq_true hz
  refine ⟨⟨_, congrArg Host.Outcome.next (runDirective_done (c := .setCool) h hr rfl rfl), ?_⟩,
    ⟨_, congrArg Host.Outcome.next (runDirective_done (c := .setHeat) h hr rfl rfl), ?_⟩,
    ⟨_, congrArg Host.Outcome.next (runDirective_done (c := .setHumid) h hr rfl rfl), ?_⟩, fun x hx => ?_⟩
  · exact ⟨answered_done _ _ rfl, rfl, rfl, rfl, rfl, rfl, rfl⟩
  · exact ⟨answered_done _ _ rfl, rfl, rfl, rfl, rfl, rfl, rfl⟩
  · exact ⟨answered_done _ _ rfl, rfl, rfl, rfl⟩
  · have he : Code.zoneSet.effect arg s =
        ({ s with zone := { s.zone with settings := s.zone.settings.setSetting x } }, some arg) := by
      simp [Code.effect, effectZoneSet, hx]
    refine ⟨_, congrArg Host.Outcome.next (runDirective_done h hr (decide_eq_true (settingOfCode_le hx)) he), ?_⟩
    exact ⟨answered_done _ _ rfl, rfl, rfl, rfl⟩

theorem testSet_size (t : TestSet) :
    t.size = (if t.role = none then 0 else 1) + (if t.corrupt then 1 else 0) + (if t.mute then 1 else 0) := by
  rcases t with ⟨_ | _, c, m⟩ <;> cases c <;> cases m <;> rfl

/-- Settles O21: READ, the two tests of every role, and NORMAL, each by its effect. -/
theorem everyRoleReadsAndTests : Obligations.EveryRoleReadsAndTests := by
  intro s src dst arg h
  refine ⟨fun ha => ⟨_, congrArg Host.Outcome.next (runDirective_done (c := .read) h rfl (decide_eq_true ha) rfl), ?_⟩,
    ⟨_, congrArg Host.Outcome.next (runDirective_done (c := .corruptCheck) h rfl rfl rfl), ?_⟩,
    ⟨_, congrArg Host.Outcome.next (runDirective_done (c := .muteCount) h rfl rfl rfl), ?_⟩,
    ⟨_, congrArg Host.Outcome.next (runDirective_done (c := .normal) h rfl rfl rfl), ?_⟩⟩
  · exact ⟨answered_done _ _ rfl, rfl, rfl, rfl, rfl⟩
  · exact ⟨answered_done _ _ rfl, rfl, rfl⟩
  · exact ⟨answered_done _ _ rfl, rfl, rfl⟩
  · rw [← testSet_size]
    exact ⟨answered_done _ _ rfl, rfl, rfl⟩

theorem byte_eq_zero_iff (x : Byte) : x = 0 ↔ x.toNat = 0 :=
  ⟨fun h => by rw [h]; rfl, fun h => BitVec.eq_of_toNat_eq h⟩

theorem limitBlowerArg_eq (arg : Byte) :
    limitBlowerArg arg = if arg.toNat = 0 then 0 else BitVec.ofNat 8 (max 75 (min 250 arg.toNat)) := by
  simp only [limitBlowerArg, limitTo, byte_eq_zero_iff]

theorem limitSpeedArg_eq (arg : Byte) :
    limitSpeedArg arg = if arg.toNat = 0 then 0 else BitVec.ofNat 8 (max 30 (min 100 arg.toNat)) := by
  simp only [limitSpeedArg, limitTo, byte_eq_zero_iff]

/-- What homing after a fault leaves of the station (R126, R128). -/
theorem rehome_of_fault {s : State} (hf : s.damper.fault = true) :
    (rehome s).damper.fault = false ∧ (rehome s).damper.seeking = true ∧ (rehome s).damper.homed = false ∧
      (rehome s).damper.stalls = 0 ∧ (rehome s).damper.position = s.damper.position ∧
      (rehome s).timers.homing = ⟨true, 0⟩ ∧
      { rehome s with
        damper := s.damper, timers := s.timers, out := { (rehome s).out with bridge := s.out.bridge } } = s := by
  obtain ⟨h1, h2, h3, -⟩ := startHoming_fields { s.motor with d := { s.damper with fault := false } }
  unfold rehome
  rw [if_pos hf]
  refine ⟨?_, h1, h2, ?_, ?_, h3, rfl⟩ <;> simp only [Motor.startHoming] <;> split <;> rfl

/-- Settles O22: each role test by its effect; TEST_DAMPER homes a faulty damper. -/
theorem roleTestsLatchTheirArgument : Obligations.RoleTestsLatchTheirArgument := by
  intro s src dst arg h
  refine ⟨fun hr => ?_, fun hr => ?_, fun hr => ?_⟩
  · refine ⟨_, congrArg Host.Outcome.next
      (runDirective_done (c := .testDamper) h (decide_eq_true hr) rfl rfl), ?_, ?_, fun hf => ?_, fun hf => ?_⟩
    · exact answered_done _ _ (by simp [latchRole])
    · simp [latchRole, State.answered, limitDamperArg]
    · simp [rehome, hf, latchRole, State.answered]
    · obtain ⟨h1, h2, h3, h4, h5, h6, h7⟩ := rehome_of_fault hf
      refine ⟨h1, h2, h3, h4, h5, h6, ?_⟩
      have hd : (rehome s).dir = s.dir := rehome_dir s
      simpa [State.answered, latchRole, hd] using h7
  · refine ⟨_, congrArg Host.Outcome.next
      (runDirective_done (c := .testBlower) h (decide_eq_true hr) rfl rfl), ?_⟩
    dsimp only
    rw [← limitBlowerArg_eq]
    exact ⟨answered_done _ _ rfl, rfl, rfl⟩
  · refine ⟨_, congrArg Host.Outcome.next
      (runDirective_done (c := .testSpeed) h (decide_eq_true hr) rfl rfl), ?_⟩
    dsimp only
    rw [← limitSpeedArg_eq]
    exact ⟨answered_done _ _ rfl, rfl, rfl⟩

theorem forceDefrostOk_iff (m : Mode) (o : Outdoor) :
    forceDefrostOk m o = true ↔ m = .heat ∧ 0 < o.speed ∧ o.defrost = .normal := decide_eq_true_iff

/-- Settles O23: FORCE_DEFROST by its conditions, and CLEAR_TRIP. -/
theorem outdoorDirectivesActOnThePlant : Obligations.OutdoorDirectivesActOnThePlant := by
  intro s src dst arg h hr
  have hro : decide (s.role = .outdoor) = true := decide_eq_true hr
  refine ⟨?_, ⟨_, congrArg Host.Outcome.next (runDirective_done (c := .clearTrip) h hro rfl rfl), ?_⟩⟩
  · by_cases hok : s.coll.state.mode = .heat ∧ 0 < s.outdoor.speed ∧ s.outdoor.defrost = .normal
    · have he : Code.forceDefrost.effect arg s =
          (s.withPlant ({ s.plant with o := s.outdoor.enterDefrost } : Plant).requestFan, some 0) :=
        if_pos ((forceDefrostOk_iff _ _).2 hok)
      refine ⟨_, congrArg Host.Outcome.next (runDirective_done h hro rfl he), ?_⟩
      rw [if_pos hok]
      refine ⟨answered_done _ _ rfl, rfl, rfl, ?_, rfl⟩
      simp [State.answered, State.withPlant, Plant.requestFan, requestFan, Outdoor.fanWanted, Outdoor.enterDefrost,
        State.plant]
    · have he : Code.forceDefrost.effect arg s = (s, none) := if_neg (mt (forceDefrostOk_iff _ _).1 hok)
      have hx := (runDirective_heard h).trans
        (oweReply_execute_unable (acceptedCode_number (c := .forceDefrost) (arg := arg) src dst hro rfl) he)
      refine ⟨_, congrArg Host.Outcome.next hx, ?_⟩
      rw [if_neg hok]
      exact refused_unable ..
  · exact ⟨rfl, rfl, answered_done _ _ rfl, rfl, rfl, rfl, rfl, rfl, rfl⟩

/-- Settles O24: every row whose code is not the station's, or whose argument is outside its set, is refused. -/
theorem misplacedDirectivesAreRefused : Obligations.MisplacedDirectivesAreRefused := by
  intro s src dst arg h
  have key (c : Code) (hc : c.forRole s.role = false ∨ c.argOk arg = false) :
      ∃ t, (.next (runDirective c src dst arg s) : Host.Outcome State Fault Refusal) = .next t ∧
        ExecutedUnable ⟨src, dst, c.number, arg⟩ s t :=
    ⟨_, congrArg Host.Outcome.next (runDirective_refused h hc), refused_unable ..⟩
  refine ⟨fun hr => ?_, fun hr => ?_, fun ha => ?_, fun hr => ?_, fun hr => ?_⟩
  · have hn : decide (s.role = .zone) = false := decide_eq_false hr
    exact ⟨key .setCool (.inl hn), key .setHeat (.inl hn), key .setHumid (.inl hn), key .testDamper (.inl hn)⟩
  · exact key .zoneSet (hr.imp decide_eq_false fun ha => decide_eq_false (Nat.not_le.2 ha))
  · exact key .read (.inr (decide_eq_false (Nat.not_le.2 ha)))
  · exact key .testBlower (.inl (decide_eq_false hr))
  · have hn : decide (s.role = .outdoor) = false := decide_eq_false hr
    exact ⟨key .testSpeed (.inl hn), key .forceDefrost (.inl hn), key .clearTrip (.inl hn)⟩

end Sys2Proof.Machine

/-! SUPPORT and O19, O44 to O47. The filter, the output stages, the indicators and the trip input. -/

namespace Sys2Proof.Machine

/-- Settles O19: the filter by its three branches. -/
theorem flagChangesAtTheThirdRound : Obligations.FlagChangesAtTheThirdRound := by
  refine ⟨fun f => ⟨if_pos rfl, fun h => ?_, fun h => ?_⟩, fun p plant => rfl⟩
  · unfold FlagFilter.update
    rw [if_neg (by simp), if_neg (by omega)]
  · unfold FlagFilter.update
    rw [if_neg (by simp), if_pos (by omega)]

/-! ### Switched outputs and PWM channels (R164, R169, R170) -/

theorem intervalEnd_none {w : Switched} (h : w.held = none) : w.intervalEnd = w := by
  unfold Switched.intervalEnd
  rw [h]

theorem intervalEnd_some {w : Switched} {level : Bool} (h : w.held = some level) : w.intervalEnd = ⟨level, none⟩ := by
  unfold Switched.intervalEnd
  rw [h]

/-- An interval that ends without a held request changes nothing (R169). -/
theorem endInterval_none {l : Load} {s : State} (h : (s.out.switched l).held = none) : endInterval l s = s := by
  cases l <;> simp only [Output.switched] at h <;>
    simp only [endInterval, intervalEnd_none h, intervalAfter_self]

theorem endInterval_other {l l' : Load} (h : l' ≠ l) (s : State) :
    (endInterval l s).out.switched l' = s.out.switched l' ∧ (endInterval l s).intervalTimer l' = s.intervalTimer l' := by
  cases l <;> cases l' <;> simp [endInterval, Output.switched, State.intervalTimer] at h ⊢

/-- An interval that ends with a held request applies it, and reaches no other output (R169). -/
theorem endInterval_some {l : Load} {s : State} {level : Bool} (h : (s.out.switched l).held = some level) :
    (endInterval l s).out.switched l = ⟨level, none⟩ ∧
      (endInterval l s).intervalTimer l =
        (if (s.out.switched l).on = level then s.intervalTimer l else ⟨true, 0⟩) ∧
      (∀ l', l' ≠ l → (endInterval l s).out.switched l' = s.out.switched l' ∧
        (endInterval l s).intervalTimer l' = s.intervalTimer l') ∧
      { endInterval l s with
        out := { (endInterval l s).out with valve := s.out.valve, fan := s.out.fan, heater := s.out.heater }
        timers := { (endInterval l s).timers with
          valve := s.timers.valve, fan := s.timers.fan, heater := s.timers.heater } } = s := by
  cases l <;> simp only [Output.switched] at h <;>
    refine ⟨intervalEnd_some h, ?_, fun _ hl => endInterval_other hl s, rfl⟩ <;>
    simp only [endInterval, State.intervalTimer, Output.switched, intervalEnd_some h, intervalAfter, Timer.started] <;> rfl

theorem endPeriod_other {c c' : PwmChannel} (h : c' ≠ c) (s : State) :
    (endPeriod c s).out.pwm c' = s.out.pwm c' ∧ (endPeriod c s).pwmTimer c' = s.pwmTimer c' := by
  cases c <;> cases c' <;> simp [endPeriod, Output.pwm, State.pwmTimer] at h ⊢

/-- A period's end applies a pending duty, and reaches no other channel (R164). -/
theorem endPeriod_spec (c : PwmChannel) (s : State) :
    (endPeriod c s).out.pwm c =
        (if (s.out.pwm c).pending = true then ⟨(s.out.pwm c).staged, (s.out.pwm c).staged, false⟩ else s.out.pwm c) ∧
      (∀ c', c' ≠ c → (endPeriod c s).out.pwm c' = s.out.pwm c' ∧ (endPeriod c s).pwmTimer c' = s.pwmTimer c') ∧
      (endPeriod c s).pwmTimer c = ⟨true, 0⟩ ∧
      { endPeriod c s with
        out := { (endPeriod c s).out with
          blower := s.out.blower, bypass := s.out.bypass, compressor := s.out.compressor }
        timers := { (endPeriod c s).timers with
          pwmBlower := s.timers.pwmBlower, pwmBypass := s.timers.pwmBypass
          pwmCompressor := s.timers.pwmCompressor } } = s := by
  have hend (x : Pwm) : x.periodEnd = if x.pending = true then ⟨x.staged, x.staged, false⟩ else x := by
    unfold Pwm.periodEnd
    split
    · next h => rfl
    · rfl
  cases c <;> exact ⟨hend _, fun _ hc => endPeriod_other hc s, rfl, rfl⟩

theorem exec_pwmPeriodEnd_of_running {c : PwmChannel} {s : State} (h : (s.pwmTimer c).running = true) :
    exec (.pwmPeriodEnd c) s = .next (endPeriod c (elapseTo (s.pwmTimer c) Config.periodUs s)) := by
  simp only [exec, execPwmPeriodEnd, h, if_true]

/-- Settles O44: requests, period ends, interval ends and the blink clock, each by its definition. -/
theorem periodsAndIntervalsEnd : Obligations.PeriodsAndIntervalsEnd := by
  refine ⟨fun x level us => rfl, fun s c h => ⟨_, exec_pwmPeriodEnd_of_running h, ?_⟩,
    fun s => ⟨fun l => ⟨fun h => ?_, fun level h => ⟨_, rfl, ?_⟩⟩, fun h => ?_⟩⟩
  · exact endPeriod_spec c (elapseTo (s.pwmTimer c) 1000 s)
  · exact congrArg Host.Outcome.next (endInterval_none (s := elapseTo (s.intervalTimer l) 2000000 s) h)
  · exact endInterval_some (s := elapseTo (s.intervalTimer l) 2000000 s) h
  · simp only [exec, execBlinkClock, h, if_true]
    rfl

/-! ### The bridge (R168) -/

theorem barred_iff (d : Direction) (dead : Timer) (b : Bridge) :
    b.barred d dead = true ↔ b.lastHalf = some d.other ∧ dead.us < 100 := decide_eq_true_iff

/-- Settles O45: the half asked for starts unless its dead time bars it. -/
theorem bridgeKeepsItsDeadTime : Obligations.BridgeKeepsItsDeadTime := by
  intro s h
  have hx : exec .hbridgePeriodStart s =
      .next
        { elapseTo s.timers.bridge 1000 s with
          out := { s.out with
            bridge := s.out.bridge.periodStart (elapseTo s.timers.bridge 1000 s).timers.bridgeDead }
          timers := { (elapseTo s.timers.bridge 1000 s).timers with bridge := ⟨true, 0⟩ } } := by
    simp only [exec, execHbridgePeriodStart, h, if_true]
    rfl
  refine ⟨_, hx, fun d hd => ⟨fun hb => ?_, fun hb => ?_⟩, fun hn => ?_, rfl, rfl⟩
  · simp only [Bridge.periodStart, hd]
    exact if_pos ((barred_iff ..).2 hb)
  · simp only [Bridge.periodStart, hd]
    refine if_neg fun hbar => ?_
    obtain ⟨h1, h2⟩ := (barred_iff ..).1 hbar
    exact hb.elim (fun hl => hl h1) fun hu => absurd h2 (Nat.not_lt.2 hu)
  · simp only [Bridge.periodStart, hn]

/-! ### Indicators and pins (R57, R92, R93, R135, R142, R164, R168, R170) -/

theorem standingFault_iff (s : State) :
    s.standingFault = true ↔
      s.rst.state = .failed ∨ s.health.addressClash = true ∨ s.meas.a.ring.length < 4 ∨ s.meas.b.ring.length < 4 ∨
        s.role = .zone ∧ s.damper.fault = true := by
  simp [State.standingFault, State.configFault, CaptureChannel.valid, or_assoc]

theorem testFlag_iff (s : State) :
    s.testFlag = true ↔ s.dir.tests.role ≠ none ∨ s.dir.tests.corrupt = true ∨ s.dir.tests.mute = true := by
  simp only [State.testFlag, testSet_size, decide_eq_true_eq]
  cases s.dir.tests.role <;> cases s.dir.tests.corrupt <;> cases s.dir.tests.mute <;> simp

theorem lit_lineIndicator_iff (s : State) :
    s.lit s.lineIndicator = true ↔ s.health.link = .joined ∨ s.health.link = .holdover ∧ s.out.blinkLit = true := by
  unfold State.lineIndicator
  cases s.health.link <;> simp [State.lit]

theorem lit_callIndicator_iff (s : State) :
    s.lit s.callIndicator = true ↔
      s.role = .zone ∧ s.zone.call ≠ .none ∧ (s.zone.served = true ∨ s.out.blinkLit = true) := by
  unfold State.callIndicator
  split_ifs with h hs
  · simp [State.lit, h, hs]
  · simp [State.lit, h, hs]
  · simp only [State.lit, Bool.false_eq_true, false_iff]
    exact fun ⟨h1, h2, _⟩ => h ⟨h1, h2⟩

theorem lit_faultIndicator_iff (s : State) :
    s.lit s.faultIndicator = true ↔
      (s.rst.state = .checked ∨ s.rst.state = .failed) ∧
        (s.standingFault = true ∨ s.testFlag = true ∧ s.out.blinkLit = true) := by
  unfold State.faultIndicator
  cases s.rst.state <;> cases s.standingFault <;> cases s.testFlag <;> simp [State.lit]

/-- Settles O46: the indicators and pins by their definitions, and the heater's interlock at the blower's period end. -/
theorem indicatorsAndPinsFollowTheState : Obligations.IndicatorsAndPinsFollowTheState := by
  refine ⟨fun s => ⟨lit_lineIndicator_iff s, lit_callIndicator_iff s, ?_, fun c => decide_eq_true_iff, fun d => ?_, ?_⟩,
    fun s h => ⟨_, exec_pwmPeriodEnd_of_running (c := .blower) h, ?_⟩⟩
  · rw [lit_faultIndicator_iff, standingFault_iff, testFlag_iff]
  · simp only [State.bridgePins]
    split_ifs with hu
    · exact ⟨fun e => ⟨e, hu⟩, fun e => e.1⟩
    · exact ⟨nofun, fun e => absurd e.2 hu⟩
  · simp [State.heaterEnergised]
  · obtain ⟨hd, -⟩ := endPeriod_spec .blower (elapseTo s.timers.pwmBlower 1000 s)
    have happ : (endPeriod .blower (elapseTo s.timers.pwmBlower 1000 s)).out.blower.applied =
        if s.out.blower.pending = true then s.out.blower.staged else s.out.blower.applied := by
      exact (congrArg Pwm.applied hd).trans (apply_ite ..)
    exact ⟨happ, by rw [← happ]; rfl, by rw [← happ]; rfl, rfl, rfl⟩

/-! ### The trip input (R143, R153, R159, R166, R167) -/

theorem activeAt_iff (r : Role) (high : Bool) :
    activeAt r high = true ↔ r = .handler ∧ high = false ∨ r = .outdoor ∧ high = true := by
  cases r <;> cases high <;> decide

/-- The station as the next trip sample finds it (R167). -/
def toTripSample (s : State) : State :=
  { elapseTo s.timers.tripClock Config.tripSampleUs s with
    timers := { (elapseTo s.timers.tripClock Config.tripSampleUs s).timers with tripClock := .started } }

theorem tripSample_eq (b : Bool) (s : State) : tripSample b s = takeTripSample b (toTripSample s) := rfl

/-- The station with the filtered trip input newly at `b` (R167). -/
def State.tripLevel (b : Bool) (s : State) : State := { s with out := { s.out with tripActive := b, tripRun := 0 } }

theorem takeTripSample_same (s : State) :
    takeTripSample s.out.tripActive s = { s with out := { s.out with tripRun := 0 } } := if_pos rfl

theorem takeTripSample_counts {b : Bool} {s : State} (hb : b ≠ s.out.tripActive) (hr : s.out.tripRun < 7) :
    takeTripSample b s = { s with out := { s.out with tripRun := s.out.tripRun + 1 } } := by
  unfold takeTripSample
  rw [if_neg hb, if_neg (by omega)]

theorem takeTripSample_changes {b : Bool} {s : State} (hb : b ≠ s.out.tripActive) (hr : s.out.tripRun = 7) :
    takeTripSample b s = tripChanged (s.tripLevel b) := by
  unfold takeTripSample
  rw [if_neg hb, if_pos (by omega)]
  rfl

theorem addTrip_length_iff (trips : List Nat) : 3 ≤ (addTrip trips).length ↔ 2 ≤ trips.length := by
  unfold addTrip
  split
  · simp; omega
  · simp

/-- A trip of the outdoor station, whole (R153, R159, R166). -/
theorem trip_spec (p : Plant) :
    p.trip.o.comp = .tripped ∧ p.trip.out.compressor = ⟨0, 0, false⟩ ∧ p.trip.out.tripHold = true ∧
      p.trip.o.trips = (if 3 ≤ p.o.trips.length then p.o.trips.tail else p.o.trips) ++ [0] ∧
      p.trip.o.lockout = (p.o.lockout || decide (2 ≤ p.o.trips.length)) ∧
      (p.o.comp.isRunning = true →
        p.trip.o.speed = 0 ∧ p.trip.o.offTimer = 0 ∧ p.trip.o.defrost = .normal ∧ p.trip.o.side = none) ∧
      (p.o.comp.isRunning = false → p.trip.o.offTimer = p.o.offTimer) := by
  have hl : decide (3 ≤ (addTrip p.o.trips).length) = decide (2 ≤ p.o.trips.length) :=
    decide_eq_decide.2 (addTrip_length_iff _)
  unfold Plant.trip Plant.tripMachine
  rw [← hl]
  by_cases hr : p.o.comp.isRunning = true
  · simp only [hr, if_true]
    exact ⟨rfl, rfl, rfl, rfl, rfl, fun _ => ⟨rfl, rfl, rfl, rfl⟩, nofun⟩
  · dsimp only
    rw [if_neg hr]
    exact ⟨rfl, rfl, rfl, rfl, rfl, fun h => absurd h hr, fun _ => rfl⟩

/-- The end of a trip, whole (R153). -/
theorem untrip_spec (p : Plant) :
    p.untrip.o =
        { p.o with comp := if p.o.comp = .tripped then (if p.o.offTimer < 180 then .minOff else .stopped) else p.o.comp } ∧
      p.untrip.out.compressor = p.out.compressor ∧ p.untrip.out.tripHold = p.out.tripHold := by
  unfold Plant.untrip
  split_ifs <;> exact ⟨rfl, rfl, rfl⟩

/-- What follows a change of the filtered level in any role: trip input and run count stay, and what moves of an OUTDOOR
station is its plant (R167). -/
theorem tripChanged_frame (s : State) :
    (tripChanged s).out.tripActive = s.out.tripActive ∧ (tripChanged s).out.tripRun = s.out.tripRun ∧
      { tripChanged s with
        outdoor := s.outdoor, timers := { (tripChanged s).timers with fan := s.timers.fan }
        out := { (tripChanged s).out with
          compressor := s.out.compressor, tripHold := s.out.tripHold, fan := s.out.fan } } = s := by
  unfold tripChanged
  split
  · split
    · unfold Plant.trip Plant.tripMachine
      dsimp only
      split <;> exact ⟨rfl, rfl, rfl⟩
    · unfold Plant.untrip
      split <;> exact ⟨rfl, rfl, rfl⟩
  all_goals exact ⟨rfl, rfl, rfl⟩

theorem tripChanged_of_not_outdoor {s : State} (h : s.role ≠ .outdoor) : tripChanged s = s := by
  unfold tripChanged
  cases hr : s.role with
  | outdoor => exact absurd hr h
  | _ => rfl

theorem tripChanged_active {s : State} (hr : s.role = .outdoor) (ha : s.out.tripActive = true) :
    tripChanged s = s.withPlant s.plant.trip.requestFan := by
  unfold tripChanged
  rw [hr, if_pos ha]

theorem tripChanged_inactive {s : State} (hr : s.role = .outdoor) (ha : s.out.tripActive = false) :
    tripChanged s = s.withPlant s.plant.untrip.requestFan := by
  unfold tripChanged
  rw [hr, if_neg (by simp [ha])]

@[simp] theorem tripChanged_role (s : State) : (tripChanged s).role = s.role := by simp [State.role]

/-- Settles O47: the filter's three branches, and the eighth sample's change by its level. -/
theorem eighthTripSampleChangesTheLevel : Obligations.EighthTripSampleChangesTheLevel := by
  intro s high hrun
  have hx : exec (.tripInputSample high) s = .next (takeTripSample (activeAt s.role high) (toTripSample s)) := by
    simp only [exec, execTripInputSample, hrun, if_true, tripSample_eq]
  have hact := activeAt_iff s.role high
  refine ⟨fun h => ?_, fun h hr => ?_, fun h hr => ?_⟩
  · have he : activeAt s.role high = s.out.tripActive := Bool.eq_iff_iff.2 (hact.trans h)
    rw [hx, he]
    exact congrArg Host.Outcome.next (takeTripSample_same (toTripSample s))
  · have he : activeAt s.role high ≠ s.out.tripActive := fun e => h (hact.symm.trans (Bool.eq_iff_iff.1 e))
    rw [hx]
    exact congrArg Host.Outcome.next (takeTripSample_counts (s := toTripSample s) he hr)
  · have he : activeAt s.role high ≠ s.out.tripActive := fun e => h (hact.symm.trans (Bool.eq_iff_iff.1 e))
    have hn : activeAt s.role high = !s.out.tripActive := Bool.eq_not_of_ne he
    have hchange := takeTripSample_changes (s := toTripSample s) (b := !s.out.tripActive) (Bool.not_ne_self _) hr
    have hfilter : exec .tripFilterChange s = .next (takeTripSample (!s.out.tripActive) (toTripSample s)) := by
      simp only [exec, execTripFilterChange]
      rw [if_pos ⟨hrun, hr⟩]
      rfl
    obtain ⟨hta, htr, hframe⟩ := tripChanged_frame ((toTripSample s).tripLevel (!s.out.tripActive))
    have hrole : (tripChanged ((toTripSample s).tripLevel (!s.out.tripActive))).role = s.role := tripChanged_role _
    rw [hx, hfilter, hn, hchange]
    refine ⟨_, rfl, rfl, hta, htr, ?_, ?_, fun hro => ?_, fun hro ha => ?_, fun hro ha => ?_, ?_⟩
    · rw [State.hpTrip, hrole, hta]; rfl
    · rw [State.overflow, hrole, hta]; rfl
    · exact tripChanged_of_not_outdoor hro
    · rw [tripChanged_active (s := (toTripSample s).tripLevel (!s.out.tripActive)) hro (by simp [State.tripLevel, ha])]
      exact trip_spec ((toTripSample s).tripLevel (!s.out.tripActive)).plant
    · rw [tripChanged_inactive (s := (toTripSample s).tripLevel (!s.out.tripActive)) hro (by simp [State.tripLevel, ha])]
      exact untrip_spec ((toTripSample s).tripLevel (!s.out.tripActive)).plant
    · exact congrArg (fun t : State => { t with
        out := { t.out with tripActive := s.out.tripActive, tripRun := s.out.tripRun } }) hframe

end Sys2Proof.Machine

/-! SUPPORT, O9, O14, O16 and O26. A decision by the link state that it finds (R37 to R55). -/

namespace Sys2Proof.Machine

/-- A bad decision, by the link state: it counts, and leaves the house at the fourth and the thirtieth in a row (R49, R51,
R54). -/
theorem takeDecision_bad {v : Verdict} (w : View) {s : State} (hd : s.decides = true) (hv : v.isAccepted = false) :
    (s.health.link = .listen ∧
      takeDecision v w s = (decideRound v w s).counted .listen s.health.badRun 0) ∨
    (s.health.link = .joined ∧
      takeDecision v w s =
        (decideRound v w s).counted (if 3 ≤ s.health.badRun then .holdover else .joined) (s.health.badRun + 1)
          s.health.joining) ∨
    (s.health.link = .holdover ∧ s.health.badRun < 29 ∧
      takeDecision v w s = (decideRound v w s).counted .holdover (s.health.badRun + 1) s.health.joining) ∨
    (s.health.link = .holdover ∧ 29 ≤ s.health.badRun ∧
      takeDecision v w s = enterIsolated false (decideRound v w s)) := by
  have hc : clashes v (decideRound v w s) = false := by simp [clashes, hv]
  unfold takeDecision
  rw [if_pos hd]
  dsimp only
  rw [if_neg (by simp [hc])]
  unfold linkMove
  rw [decideRound_link]
  cases hl : s.health.link with
  | quiet => simp [State.decides, hl] at hd
  | isolated => simp [State.decides, hl] at hd
  | listen =>
    refine .inl ⟨rfl, ?_⟩
    simp [listenMove, hv, State.counted, ← hl, decideRound, Health.decided]
  | joined =>
    refine .inr (.inl ⟨rfl, ?_⟩)
    by_cases h : 3 ≤ s.health.badRun
    · simp [joinedMove, hv, State.counted, decideRound, Health.decided, h]
    · simp [joinedMove, hv, State.counted, ← hl, decideRound, Health.decided, h]
  | holdover =>
    refine .inr (.inr ?_)
    by_cases h : 29 ≤ s.health.badRun
    · exact .inr ⟨rfl, h, by simp [holdoverMove, hv, h]⟩
    · exact .inl ⟨rfl, Nat.not_le.1 h, by simp [holdoverMove, hv, State.counted, ← hl, decideRound, Health.decided, h]⟩

/-- A decision that brings a clash count of 2 isolates the station (R48). -/
theorem takeDecision_clash {v : Verdict} {w : View} {s : State} (hd : s.decides = true)
    (hc : clashes v (decideRound v w s) = true) : takeDecision v w s = enterIsolated true (decideRound v w s) := by
  unfold takeDecision
  rw [if_pos hd]
  exact if_pos hc

/-- A decision that is no clash is the link state machine's (R49 to R54). -/
theorem takeDecision_linkMove {v : Verdict} {w : View} {s : State} (hd : s.decides = true)
    (hc : clashes v (decideRound v w s) = false) : takeDecision v w s = linkMove v (decideRound v w s) := by
  unfold takeDecision
  rw [if_pos hd]
  exact if_neg (by simp [hc])

/-- An accepted decision short of the eighth in LISTEN counts (R49). -/
theorem takeDecision_listen_counts {w : View} {s : State} (hl : s.health.link = .listen) (hj : s.health.joining < 7)
    (hc : clashes .accepted (decideRound .accepted w s) = false) :
    takeDecision .accepted w s =
      (decideRound .accepted w s).counted .listen s.health.badRun (s.health.joining + 1) := by
  rw [takeDecision_linkMove (by simp [State.decides, hl]) hc, linkMove, decideRound_link, hl]
  dsimp only [listenMove]
  rw [if_pos (show Verdict.accepted.isAccepted = true from rfl), decideRound_joining, if_neg (by omega)]
  exact congrArg (fun l => (decideRound .accepted w s).counted l s.health.badRun (s.health.joining + 1)) hl

/-- The eighth accepted decision in LISTEN joins the house and hands the round on (R49). -/
theorem takeDecision_listen_joins {w : View} {s : State} (hl : s.health.link = .listen) (hj : 7 ≤ s.health.joining)
    (hc : clashes .accepted (decideRound .accepted w s) = false) :
    takeDecision .accepted w s = handOn ((decideRound .accepted w s).joinedAt 0 w.idx) := by
  rw [takeDecision_linkMove (by simp [State.decides, hl]) hc, linkMove, decideRound_link, hl]
  dsimp only [listenMove]
  rw [if_pos (show Verdict.accepted.isAccepted = true from rfl), decideRound_joining, if_pos (by omega)]
  rfl

/-- An accepted decision in JOINED or HOLDOVER hands the round on (R39, R51, R53). -/
theorem takeDecision_accepted {w : View} {s : State} (hl : s.mayDrive = true)
    (hc : clashes .accepted (decideRound .accepted w s) = false) :
    takeDecision .accepted w s =
      handOn ((decideRound .accepted w s).joinedAt s.health.joining (decideRound .accepted w s).asm.index) := by
  have hl' : s.health.link = .joined ∨ s.health.link = .holdover := by simpa [State.mayDrive] using hl
  obtain hl' | hl' := hl'
  · rw [takeDecision_linkMove (by simp [State.decides, hl']) hc, linkMove, decideRound_link, hl']
    rfl
  · rw [takeDecision_linkMove (by simp [State.decides, hl']) hc, linkMove, decideRound_link, hl']
    rfl

/-- A bad decision leaves what the round left held, and the line but for the permission (R40). -/
theorem takeDecision_bad_frame {v : Verdict} (w : View) {s : State} (hd : s.decides = true) (hv : v.isAccepted = false) :
    { (takeDecision v w s).line with permission := s.line.permission } = s.line ∧
      (takeDecision v w s).health.view = s.health.view ∧ (takeDecision v w s).health.plant = s.health.plant ∧
      (takeDecision v w s).health.clashCount = s.health.clashCount ∧
      (takeDecision v w s).health.candidate = s.health.candidate ∧
      (takeDecision v w s).health.lastAccepted = false ∧ (takeDecision v w s).health.farEnd = s.health.farEnd ∧
      (takeDecision v w s).asm.index = (s.asm.decided v s.line.permission w.idx).index ∧
      (takeDecision v w s).zone.settings = s.zone.settings ∧ (takeDecision v w s).meas = s.meas ∧
      (takeDecision v w s).rst = s.rst := by
  have hview : (decideRound v w s).health.view = s.health.view := by simp [decideRound, Health.decided, hv]
  have hplant : (decideRound v w s).health.plant = s.health.plant := by simp [decideRound, Health.decided, hv]
  have hcount : (decideRound v w s).health.clashCount = s.health.clashCount := by simp [decideRound, Health.decided, hv]
  have hfar : (decideRound v w s).health.farEnd = s.health.farEnd := by simp [decideRound, Health.decided, hv, countsFar]
  have hlast : (decideRound v w s).health.lastAccepted = false := hv
  obtain ⟨-, ht⟩ | ⟨-, ht⟩ | ⟨-, -, ht⟩ | ⟨-, -, ht⟩ := takeDecision_bad w hd hv <;> rw [ht]
  · exact ⟨rfl, hview, hplant, hcount, rfl, hlast, hfar, rfl, rfl, rfl, rfl⟩
  · exact ⟨rfl, hview, hplant, hcount, rfl, hlast, hfar, rfl, rfl, rfl, rfl⟩
  · exact ⟨rfl, hview, hplant, hcount, rfl, hlast, hfar, rfl, rfl, rfl, rfl⟩
  · rw [enterIsolated_line, enterIsolated_health, enterIsolated_asm, enterIsolated_settings]
    refine ⟨rfl, hview, hplant, hcount, rfl, hlast, hfar, rfl, rfl, ?_, ?_⟩ <;> simp [enterIsolated]

end Sys2Proof.Machine

/-! SUPPORT and O49. The fields of a round by their bits, most significant first (R19, R20). -/

namespace Sys2Proof.Machine

/-! ### Fields and places -/

theorem fieldAt_getMsbD {start width : Nat} (h : start + width ≤ 384) (x : RoundBits) {i : Nat} (hi : i < width) :
    (fieldAt start width x).getMsbD i = x.getMsbD (start + i) := by
  rw [fieldAt, BitVec.getMsbD_extractLsb', show 384 - (384 - start - width + width - i) = start + i by omega]
  simp only [hi, decide_true, Bool.true_and]
  rw [decide_eq_true (by omega), Bool.true_and]

theorem placeAt_getMsbD {start width : Nat} (h : start + width ≤ 384) (v : BitVec width) {i : Nat} (hi : i < 384) :
    (placeAt start v).getMsbD i = (decide (start ≤ i ∧ i < start + width) && v.getMsbD (i - start)) := by
  rw [placeAt, BitVec.getMsbD_shiftLeft, BitVec.getMsbD_setWidth]
  by_cases h1 : start ≤ i
  · by_cases h2 : i < start + width
    · rw [show i + (384 - start - width) + width - 384 = i - start by omega]
      simp [h1, h2, show 384 - width ≤ i + (384 - start - width) by omega]
    · have hv : v.getMsbD (i + (384 - start - width) + width - 384) = false := BitVec.getMsbD_of_ge _ _ (by omega)
      simp [h2, hv]
  · simp [h1, show ¬ 384 - width ≤ i + (384 - start - width) by omega]

/-- A field reads back what is placed at it. -/
theorem fieldAt_placeAt_same {start width : Nat} (h : start + width ≤ 384) (v : BitVec width) :
    fieldAt start width (placeAt start v) = v := by
  apply BitVec.eq_of_getMsbD_eq
  intro i hi
  rw [fieldAt_getMsbD h _ hi, placeAt_getMsbD h v (by omega), show start + i - start = i by omega]
  simp [hi]

/-- A field reads recessive where another one is placed. -/
theorem fieldAt_placeAt_apart {start width start' width' : Nat} (h : start + width ≤ 384) (h' : start' + width' ≤ 384)
    (ha : start + width ≤ start' ∨ start' + width' ≤ start) (v : BitVec width') :
    fieldAt start width (placeAt start' v) = 0 := by
  apply BitVec.eq_of_getMsbD_eq
  intro i hi
  rw [fieldAt_getMsbD h _ hi, placeAt_getMsbD h' v (by omega)]
  simp only [BitVec.ofNat_eq_ofNat, BitVec.getMsbD_zero, Bool.and_eq_false_iff, decide_eq_false_iff_not]
  left; omega

theorem fieldAt_or (start width : Nat) (x y : RoundBits) :
    fieldAt start width (x ||| y) = fieldAt start width x ||| fieldAt start width y := by
  simp [fieldAt, BitVec.extractLsb'_or]

/-- The fields of the bits that carry a view are that view (R20): each field reads its own place alone. -/
theorem viewOf_bitsOf (v : View) : viewOf (bitsOf v) = v := by
  unfold viewOf bitsOf
  simp (disch := omega) only [fieldAt_or, fieldAt_placeAt_same, fieldAt_placeAt_apart, BitVec.ofNat_eq_ofNat,
    BitVec.or_zero, BitVec.zero_or]

theorem placeAt_fieldAt_getMsbD {start width : Nat} (h : start + width ≤ 384) (x : RoundBits) {i : Nat} (hi : i < 384) :
    (placeAt start (fieldAt start width x)).getMsbD i = (decide (start ≤ i ∧ i < start + width) && x.getMsbD i) := by
  rw [placeAt_getMsbD h _ hi]
  by_cases hp : start ≤ i ∧ i < start + width
  · rw [fieldAt_getMsbD h _ (by omega), show start + (i - start) = i by omega]
  · simp [hp]

/-- The bits that carry the fields of any bits are those bits (R20): the fields cover the round. -/
theorem bitsOf_viewOf (x : RoundBits) : bitsOf (viewOf x) = x := by
  apply BitVec.eq_of_getMsbD_eq
  intro i hi
  unfold bitsOf viewOf
  simp (disch := omega) only [BitVec.getMsbD_or, placeAt_fieldAt_getMsbD]
  cases x.getMsbD i
  · simp
  · simp only [Bool.and_true, Bool.or_eq_true, decide_eq_true_eq]
    omega

/-! ### The slots of SHARE and SLOW (R19) -/

theorem slotByte_getMsbD (x : SlotBits) {a i : Nat} (h1 : 1 ≤ a) (h2 : a ≤ 14) (hi : i < 8) :
    (slotByte x a).getMsbD i = x.getMsbD (8 * (a - 1) + i) := by
  rw [slotByte, if_pos ⟨h1, h2⟩, BitVec.getMsbD_extractLsb',
    show 112 - (8 * (14 - a) + 8 - i) = 8 * (a - 1) + i by omega]
  simp only [hi, decide_true, Bool.true_and]
  rw [decide_eq_true (by omega), Bool.true_and]

theorem placeSlot_getMsbD {a : Nat} (h1 : 1 ≤ a) (h2 : a ≤ 14) (b : Byte) {i : Nat} (hi : i < 112) :
    (placeSlot a b).getMsbD i = (decide (8 * (a - 1) ≤ i ∧ i < 8 * a) && b.getMsbD (i - 8 * (a - 1))) := by
  rw [placeSlot, BitVec.getMsbD_shiftLeft, BitVec.getMsbD_setWidth]
  by_cases hl : 8 * (a - 1) ≤ i
  · by_cases hu : i < 8 * a
    · rw [show i + 8 * (14 - a) + 8 - 112 = i - 8 * (a - 1) by omega]
      simp [hl, hu, show 112 - 8 ≤ i + 8 * (14 - a) by omega]
    · have hv : b.getMsbD (i + 8 * (14 - a) + 8 - 112) = false := BitVec.getMsbD_of_ge _ _ (by omega)
      simp only [hv, hu, and_false, decide_false, Bool.and_false, Bool.false_and]
  · simp [hl, show ¬ 104 ≤ i + 8 * (14 - a) by omega]

/-- A slot field that carries one byte reads it in its slot, and nothing in the others (R19). -/
theorem slotByte_placeSlot {a b : Nat} (ha : 1 ≤ a ∧ a ≤ 14) (hb : 1 ≤ b ∧ b ≤ 14) (x : Byte) :
    slotByte (placeSlot a x) b = if b = a then x else 0 := by
  apply BitVec.eq_of_getMsbD_eq
  intro i hi
  rw [slotByte_getMsbD _ hb.1 hb.2 hi, placeSlot_getMsbD ha.1 ha.2 x (by omega)]
  split
  · next h =>
    subst h
    rw [show 8 * (b - 1) + i - 8 * (b - 1) = i by omega]
    simp [show 8 * (b - 1) + i < 8 * b by omega]
  · simp only [BitVec.ofNat_eq_ofNat, BitVec.getMsbD_zero, Bool.and_eq_false_iff, decide_eq_false_iff_not]
    left; omega

/-! ### A cut window (R10) -/

theorem keepFirst_getMsbD (n : Nat) (x : RoundBits) {i : Nat} (hi : i < 384) :
    (keepFirst n x).getMsbD i = (decide (i < n) && x.getMsbD i) := by
  unfold keepFirst
  split
  · next h => simp [show i < n by omega]
  · rw [BitVec.getMsbD_shiftLeft, BitVec.getMsbD_ushiftRight]
    by_cases hn : i < n
    · simp [hn, show ¬ i + (384 - n) < 384 - n by omega, show i + (384 - n) - (384 - n) = i by omega]
      omega
    · simp [hn]
      omega

/-- A field that has come whole before a cut reads as on the wire (R10). -/
theorem fieldAt_keepFirst {start width n : Nat} (h : start + width ≤ 384) (hn : start + width ≤ n) (x : RoundBits) :
    fieldAt start width (keepFirst n x) = fieldAt start width x := by
  apply BitVec.eq_of_getMsbD_eq
  intro i hi
  rw [fieldAt_getMsbD h _ hi, fieldAt_getMsbD h _ hi, keepFirst_getMsbD n x (by omega)]
  simp [show start + i < n by omega]

theorem keepFirst_all (x : RoundBits) : keepFirst 384 x = x := rfl

/-! ### STATE, DIRECTIVE and REPLY (R25, R29) -/

theorem modeCode_le (m : Mode) : modeCode m ≤ 4 := by cases m <;> decide

theorem modeOfCode_modeCode (m : Mode) : modeOfCode (modeCode m) = some m := by cases m <;> rfl

theorem packState_toNat {c : Collective} (h : c.hold ≤ 511) : (packState c).toNat = 512 * modeCode c.mode + c.hold := by
  have := modeCode_le c.mode
  rw [packState, BitVec.toNat_ofNat]
  omega

theorem unpackState_packState {c : Collective} (h : c.hold ≤ 511) : unpackState (packState c) = some c := by
  unfold unpackState
  rw [packState_toNat h, show (512 * modeCode c.mode + c.hold) / 512 = modeCode c.mode by omega, modeOfCode_modeCode]
  simp only [show (512 * modeCode c.mode + c.hold) % 512 = c.hold by omega]

theorem toNat_append_eq {m n : Nat} (x : BitVec m) (y : BitVec n) : (x ++ y).toNat = 2 ^ n * x.toNat + y.toNat := by
  rw [BitVec.toNat_append, ← Nat.shiftLeft_add_eq_or_of_lt y.isLt, Nat.shiftLeft_eq, Nat.mul_comm]

theorem packReply_toNat (a : Nibble) (r : Reply) :
    (packReply a r).toNat = 4096 * a.toNat + 256 * r.status.toNat + r.data.toNat := by
  simp only [packReply, toNat_append_eq]
  omega

theorem nibble_complement_toNat (a : Nibble) : (15#4 - a).toNat = 15 - a.toNat := by
  have := a.isLt
  rw [BitVec.toNat_sub]
  simp only [BitVec.toNat_ofNat]
  omega

theorem packDirective_toNat (d : Directive) :
    (packDirective d).toNat =
      1048576 * (15 - d.source.toNat) + 65536 * d.dest.toNat + 256 * d.code.toNat + d.arg.toNat := by
  simp only [packDirective, toNat_append_eq, nibble_complement_toNat]
  omega

theorem packDirective_parts (d : Directive) :
    (packDirective d).extractLsb' 20 4 = 15#4 - d.source ∧ (packDirective d).extractLsb' 16 4 = d.dest ∧
      (packDirective d).extractLsb' 8 8 = d.code ∧ (packDirective d).extractLsb' 0 8 = d.arg := by
  have h := packDirective_toNat d
  have h1 := d.dest.isLt
  have h2 := d.code.isLt
  have h3 := d.arg.isLt
  refine ⟨?_, ?_, ?_, ?_⟩ <;> apply BitVec.eq_of_toNat_eq <;>
    rw [BitVec.extractLsb'_toNat, h, Nat.shiftRight_eq_div_pow]
  · rw [nibble_complement_toNat]; omega
  all_goals omega

theorem complement_eq_zero_iff (a : Nibble) : 15#4 - a = 0 ↔ a = 15 := by revert a; decide

theorem complement_complement (a : Nibble) : 15#4 - (15#4 - a) = a := by revert a; decide

theorem unpackDirective_packDirective (d : Directive) :
    unpackDirective (packDirective d) = if d.source = 15 then none else some d := by
  obtain ⟨h1, h2, h3, h4⟩ := packDirective_parts d
  unfold unpackDirective
  simp only [h1, h2, h3, h4, complement_eq_zero_iff, complement_complement]

/-- Settles O49: the fields and slots by their bits, and the three fields with parts by their values. -/
theorem fieldsPackAndUnpack : Obligations.FieldsPackAndUnpack := by
  refine ⟨fun x i => ⟨fun hi => ?_, fun hi => ⟨?_, ?_, ?_, ?_, ?_⟩, fun hi => ⟨?_, ?_, ?_⟩, fun hi => ⟨?_, ?_⟩,
    fun hi => ⟨?_, ?_⟩, fun hi => ?_, fun hi => ?_⟩, fun x a i h1 h2 hi => slotByte_getMsbD x h1 h2 hi, viewOf_bitsOf,
    bitsOf_viewOf, fun c hc => ⟨?_, unpackState_packState hc⟩, packReply_toNat,
    fun d => ⟨packDirective_toNat d, unpackDirective_packDirective d⟩⟩
  · exact (fieldAt_getMsbD (by decide) x hi).trans (by rw [Nat.zero_add])
  iterate 14 exact fieldAt_getMsbD (by decide) x hi
  · rw [packState_toNat hc]
    cases c.mode <;> rfl

end Sys2Proof.Machine

/-! SUPPORT and O50. The drop-out rule bit by bit, and the value that the wire carries (R1, R18). -/

namespace Sys2Proof.Machine

/-! ### The drop-out rule on lists of bits -/

/-- No bit among the first `n` is lost: where the wire is dominant, the station drove dominant (R18). -/
def KeptUp (own wire : Nat → Bool) (n : Nat) : Prop := ∀ j < n, wire j = true → own j = true

theorem keptUp_succ_iff (own wire : Nat → Bool) (n : Nat) :
    KeptUp own wire (n + 1) ↔ KeptUp own wire n ∧ (wire n = true → own n = true) := by
  simp only [KeptUp, Nat.lt_succ_iff_lt_or_eq]
  exact ⟨fun h => ⟨fun j hj => h j (.inl hj), h n (.inr rfl)⟩,
    fun ⟨h, hn⟩ j hj => hj.elim (h j) fun e => e ▸ hn⟩

theorem keptUp_cons_iff (o w : Bool) (os ws : List Bool) (n : Nat) :
    KeptUp ((o :: os).getD · false) ((w :: ws).getD · false) (n + 1) ↔
      (w = true → o = true) ∧ KeptUp (os.getD · false) (ws.getD · false) n := by
  constructor
  · exact fun h => ⟨h 0 (Nat.succ_pos n), fun j hj => h (j + 1) (Nat.succ_lt_succ hj)⟩
  · rintro ⟨h0, h⟩ (_ | j) hj
    · exact h0
    · exact h j (Nat.lt_of_succ_lt_succ hj)

theorem keptUp_nil (own : Nat → Bool) (n : Nat) : KeptUp own (([] : List Bool).getD · false) n := by
  intro j _ h
  simp at h

theorem map_false_getD (l : List Bool) (i : Nat) : (l.map fun _ => false).getD i false = false := by
  induction l generalizing i with
  | nil => rfl
  | cons _ _ ih => cases i <;> simp_all

/-- A station that loses its first bit drives recessive, and one that does not goes on (R18). -/
theorem arbitrate_cons (o w : Bool) (os ws : List Bool) :
    arbitrate (o :: os) (w :: ws) =
      if w = true → o = true then (o :: (arbitrate os ws).1, (arbitrate os ws).2)
      else (false :: os.map fun _ => false, .lost) := by
  cases o <;> cases w <;> rfl

theorem arbitrate_length (own wire : List Bool) : (arbitrate own wire).1.length = own.length := by
  induction own generalizing wire with
  | nil => rfl
  | cons o os ih =>
    cases wire with
    | nil => rfl
    | cons w ws =>
      rw [arbitrate_cons]
      split <;> simp [ih]

/-- What a station drives at bit `i`: its own bit, unless it has lost one before (R18). -/
theorem arbitrate_getD (own wire : List Bool) (i : Nat) :
    (arbitrate own wire).1.getD i false = true ↔
      own.getD i false = true ∧ KeptUp (own.getD · false) (wire.getD · false) i := by
  induction own generalizing wire i with
  | nil => simp [arbitrate]
  | cons o os ih =>
    cases wire with
    | nil => exact ⟨fun h => ⟨h, keptUp_nil _ _⟩, And.left⟩
    | cons w ws =>
      rw [arbitrate_cons]
      cases i with
      | zero =>
        have h0 : KeptUp ((o :: os).getD · false) ((w :: ws).getD · false) 0 := nofun
        split
        · exact ⟨fun h => ⟨h, h0⟩, And.left⟩
        · next h => exact iff_of_false Bool.false_ne_true fun ⟨ho, _⟩ => h fun _ => ho
      | succ i =>
        rw [keptUp_cons_iff]
        split
        · next h => exact (ih ws i).trans ⟨fun ⟨ho, hk⟩ => ⟨ho, h, hk⟩, fun ⟨ho, _, hk⟩ => ⟨ho, hk⟩⟩
        · next h =>
          refine iff_of_false ?_ fun ⟨_, h', _⟩ => h h'
          rw [List.getD_cons_succ, map_false_getD]
          exact Bool.false_ne_true

/-- A station wins exactly when it loses no bit (R18). -/
theorem arbitrate_won_iff (own wire : List Bool) :
    (arbitrate own wire).2 = .won ↔ KeptUp (own.getD · false) (wire.getD · false) own.length := by
  induction own generalizing wire with
  | nil => exact iff_of_true rfl nofun
  | cons o os ih =>
    cases wire with
    | nil => exact iff_of_true rfl (keptUp_nil _ _)
    | cons w ws =>
      rw [arbitrate_cons, List.length_cons, keptUp_cons_iff]
      split
      · next h => exact (ih ws).trans ⟨fun hk => ⟨h, hk⟩, And.right⟩
      · next h => exact iff_of_false nofun fun ⟨h', _⟩ => h h'

/-! ### The drop-out rule on the bits of a field -/

theorem bitList_getD {w : Nat} (v : BitVec w) (i : Nat) : (bitList v).getD i false = v.getMsbD i := by
  by_cases h : i < w
  · simp [bitList, List.getD, h]
  · rw [BitVec.getMsbD_of_ge _ _ (Nat.not_lt.1 h)]
    simp [bitList, List.getD, h]

theorem natOfBits_append (bs : List Bool) (b : Bool) : natOfBits (bs ++ [b]) = 2 * natOfBits bs + b.toNat := by
  simp [natOfBits]

/-- The number that a list of bits spells has its last bit lowest. -/
theorem natOfBits_testBit (bs : List Bool) (k : Nat) : (natOfBits bs).testBit k = bs.reverse.getD k false := by
  induction bs using List.reverseRecOn generalizing k with
  | nil => simp [natOfBits]
  | append_singleton bs b ih =>
    rw [natOfBits_append, List.reverse_append]
    cases k with
    | zero => cases b <;> simp [Nat.testBit_zero]
    | succ k =>
      rw [Nat.testBit_succ, show (2 * natOfBits bs + b.toNat) / 2 = natOfBits bs by cases b <;> simp <;> omega, ih k]
      simp

theorem ofNat_natOfBits_getMsbD {w : Nat} {bs : List Bool} (h : bs.length = w) {i : Nat} (hi : i < w) :
    (BitVec.ofNat w (natOfBits bs)).getMsbD i = bs.getD i false := by
  rw [BitVec.getMsbD_eq_getLsbD, BitVec.getLsbD_ofNat, natOfBits_testBit]
  have hr : bs.reverse.getD (w - 1 - i) false = bs.getD i false := by
    simp only [List.getD]
    rw [List.getElem?_reverse (by omega), show bs.length - 1 - (w - 1 - i) = i by omega]
  rw [hr]
  simp [hi]
  omega

/-- What a station drives at a bit of a MAX field (R18). -/
theorem arbitrated_getMsbD {w : Nat} (own wire : BitVec w) {i : Nat} (hi : i < w) :
    (arbitrated own wire).getMsbD i = true ↔ own.getMsbD i = true ∧ KeptUp own.getMsbD wire.getMsbD i := by
  have hl : (arbitrate (bitList own) (bitList wire)).1.length = w := by simp [arbitrate_length, bitList]
  rw [arbitrated, ofNat_natOfBits_getMsbD hl hi, arbitrate_getD]
  simp only [bitList_getD]

theorem arbitrationOf_won_iff {w : Nat} (own wire : BitVec w) :
    arbitrationOf own wire = .won ↔ KeptUp own.getMsbD wire.getMsbD w := by
  rw [arbitrationOf, arbitrate_won_iff]
  simp only [bitList_getD]
  simp [bitList]

/-! ### The wire (R1) -/

/-- The wire carries what the stations that send `owns` drive: each bit is dominant where one of them drives it (R1). -/
def Carries {w : Nat} (owns : List (BitVec w)) (wire : BitVec w) : Prop :=
  ∀ i < w, wire.getMsbD i = owns.any fun own => (arbitrated own wire).getMsbD i

/-- While a station has lost no bit, the wire agrees with it. -/
theorem Carries.agrees {w : Nat} {owns : List (BitVec w)} {wire own : BitVec w} (h : Carries owns wire)
    (ho : own ∈ owns) {n : Nat} (hn : n ≤ w) (hk : KeptUp own.getMsbD wire.getMsbD n) :
    ∀ j < n, own.getMsbD j = wire.getMsbD j := by
  intro j hj
  rw [Bool.eq_iff_iff]
  refine ⟨fun hown => ?_, hk j hj⟩
  have hdrive : (arbitrated own wire).getMsbD j = true :=
    (arbitrated_getMsbD own wire (by omega)).2 ⟨hown, fun k hk' => hk k (by omega)⟩
  rw [h j (by omega), List.any_eq_true]
  exact ⟨own, ho, hdrive⟩

/-- At every bit some station has lost none so far. -/
theorem Carries.survivor {w : Nat} {owns : List (BitVec w)} {wire : BitVec w} (h : Carries owns wire) (hne : owns ≠ []) :
    ∀ n ≤ w, ∃ own ∈ owns, KeptUp own.getMsbD wire.getMsbD n := by
  intro n
  induction n with
  | zero =>
    obtain ⟨own, ho⟩ := List.exists_mem_of_ne_nil owns hne
    exact fun _ => ⟨own, ho, nofun⟩
  | succ n ih =>
    intro hn
    obtain ⟨own, ho, hk⟩ := ih (by omega)
    cases hw : wire.getMsbD n with
    | false => exact ⟨own, ho, (keptUp_succ_iff ..).2 ⟨hk, fun e => by rw [hw] at e; cases e⟩⟩
    | true =>
      rw [h n (by omega), List.any_eq_true] at hw
      obtain ⟨own', ho', hd⟩ := hw
      obtain ⟨hb, hk'⟩ := (arbitrated_getMsbD own' wire (by omega)).1 hd
      exact ⟨own', ho', (keptUp_succ_iff ..).2 ⟨hk', fun _ => hb⟩⟩

/-- A station that has lost no bit sends the wire's value. -/
theorem Carries.eq_of_keptUp {w : Nat} {owns : List (BitVec w)} {wire own : BitVec w} (h : Carries owns wire)
    (ho : own ∈ owns) (hk : KeptUp own.getMsbD wire.getMsbD w) : own = wire :=
  BitVec.eq_of_getMsbD_eq fun i hi => h.agrees ho (Nat.le_refl w) hk i hi

/-- Two values that agree up to a bit, where one is recessive and the other dominant. -/
theorem toNat_lt_of_getMsbD {w : Nat} {x y : BitVec w} {i : Nat} (hi : i < w) (hx : x.getMsbD i = false)
    (hy : y.getMsbD i = true) (h : ∀ j < i, x.getMsbD j = y.getMsbD j) : x.toNat < y.toNat := by
  have hbit (v : BitVec w) {j : Nat} (hj : j < w) : v.toNat.testBit (w - 1 - j) = v.getMsbD j := by
    rw [BitVec.getMsbD_eq_getLsbD, BitVec.testBit_toNat]
    simp [hj]
  refine Nat.lt_of_testBit (w - 1 - i) ((hbit x hi).trans hx) ((hbit y hi).trans hy) fun k hk => ?_
  by_cases hkw : k < w
  · have e : k = w - 1 - (w - 1 - k) := by omega
    rw [e, hbit x (by omega), hbit y (by omega)]
    exact h _ (by omega)
  · rw [BitVec.testBit_toNat, BitVec.testBit_toNat, BitVec.getLsbD_of_ge _ _ (by omega),
      BitVec.getLsbD_of_ge _ _ (by omega)]

/-- A station that loses a bit loses its first one to a larger value. -/
theorem Carries.le {w : Nat} {owns : List (BitVec w)} {wire own : BitVec w} (h : Carries owns wire) (ho : own ∈ owns) :
    own.toNat ≤ wire.toNat := by
  by_cases hk : KeptUp own.getMsbD wire.getMsbD w
  · rw [h.eq_of_keptUp ho hk]
  · have hex : ∃ n, ¬ KeptUp own.getMsbD wire.getMsbD n := ⟨w, hk⟩
    classical
    have hle : Nat.find hex ≤ w := Nat.find_min' hex hk
    obtain ⟨n, hn⟩ : ∃ n, Nat.find hex = n + 1 := Nat.exists_eq_succ_of_ne_zero fun h0 => by
      have := Nat.find_spec hex
      rw [h0] at this
      exact this nofun
    have hkept : KeptUp own.getMsbD wire.getMsbD n := by
      by_contra hc
      have := Nat.find_min' hex hc
      omega
    have hlost := Nat.find_spec hex
    rw [hn, keptUp_succ_iff] at hlost
    have hbit : ¬ (wire.getMsbD n = true → own.getMsbD n = true) := fun hb => hlost ⟨hkept, hb⟩
    obtain ⟨hwire, hown⟩ := Classical.not_imp.1 hbit
    exact Nat.le_of_lt (toNat_lt_of_getMsbD (by omega) (Bool.of_not_eq_true hown) hwire (h.agrees ho (by omega) hkept))

/-- Settles O50: the drop-out rule by its bits, and the wire by the station that has lost none. -/
theorem wireCarriesTheLargestValue : Obligations.WireCarriesTheLargestValue := by
  refine ⟨fun w own wire => ⟨fun i hi => ?_, arbitrationOf_won_iff own wire⟩, fun w owns wire hne hw => ?_⟩
  · rw [Bool.eq_iff_iff, arbitrated_getMsbD own wire hi, Bool.and_eq_true, decide_eq_true_eq]
    rfl
  · have hc : Carries owns wire := hw
    refine ⟨fun own ho => hc.le ho, ?_, fun own ho => ?_⟩
    · obtain ⟨own, ho, hk⟩ := hc.survivor hne w (Nat.le_refl w)
      rwa [← hc.eq_of_keptUp ho hk]
    · rw [arbitrationOf_won_iff]
      exact ⟨hc.eq_of_keptUp ho, fun e => by rw [e]; exact fun _ _ hb => hb⟩

end Sys2Proof.Machine

/-! O8, O12. The end of a short run, and the timers of the line that expire (R4, R5, R9, R11 to R14, R56). -/

namespace Sys2Proof.Machine

theorem receives_iff (s : State) : s.receives = true ↔ s.health.link ≠ .quiet := by simp [State.receives]

/-- On a recessive line the Pa expiry is the mark at once (R12). -/
theorem paExpiry_of_recessive {s : State} (h : s.line.dominant = false) : paExpiry s = driveMark s := by
  simp [paExpiry, h]

theorem paExpiry_of_dominant {s : State} (h : s.line.dominant = true) :
    paExpiry s = { s with line := { s.line with pace := .deferred } } := by
  simp [paExpiry, h]

/-- The lone pacer of a recessive line drives its mark at once (R14, R50). -/
theorem lonePacer_of_recessive {s : State} (h : s.line.dominant = false) :
    lonePacer s =
      { s with
        line := { s.line with pace := .met, silenceWaits := false }
        asm := { s.asm with index := 15 }
        health := { s.health with link := .joined, badRun := 0 }
        coll := ⟨.rest, .rest⟩
        timers := { s.timers with round := ⟨true, s.paUs⟩, mark := .started } } :=
  paExpiry_of_recessive h

/-- A short run of a station that receives ends, and what waited for its end follows (R5, R12, R14). -/
theorem exec_noiseRunEnd {s : State} {n : Nat} (hd : s.line.dominant = true) (hq : s.health.link ≠ .quiet)
    (hx : s.line.rx ≠ .syncSeen) (hn : n < 12) :
    exec (.noiseRunEnd n) s = .next (afterNoise (runEnds (elapseTo s.timers.run (Config.bitsUs n) s))) := by
  have hmin : min n 11 = n := by omega
  simp only [exec, execNoiseRunEnd]
  rw [if_pos hd, if_pos ((receives_iff s).2 hq), if_neg hx, hmin]

/-- Settles O8: by what waited for the end of the run, the station's own mark, its silence event, or nothing. -/
theorem noiseEndsWithoutASync : Obligations.NoiseEndsWithoutASync := by
  intro s n hd hq hx hn
  refine ⟨_, exec_noiseRunEnd hd hq hx hn, ?_⟩
  generalize hu : runEnds (elapseTo s.timers.run (Config.bitsUs n) s) = u
  have hpace : u.line.pace = s.line.pace := by rw [← hu]; rfl
  have hmay : u.mayDrive = s.mayDrive := by rw [← hu]; rfl
  have hsil : u.line.silenceWaits = s.line.silenceWaits := by rw [← hu]; rfl
  have hlink : u.health.link = s.health.link := by rw [← hu]; rfl
  have hrec : u.line.dominant = false := by rw [← hu]; rfl
  unfold afterNoise
  rw [hpace, hmay, hsil, hlink]
  by_cases hp : s.line.pace = .deferred ∧ s.mayDrive = true
  · rw [if_pos hp, if_pos hp]
    subst hu
    exact ⟨rfl, rfl, rfl, rfl, rfl, rfl, rfl, rfl⟩
  · rw [if_neg hp, if_neg hp]
    by_cases hs : s.line.silenceWaits = true ∧ s.health.link = .listen
    · rw [if_pos hs, if_pos hs, lonePacer_of_recessive hrec]
      subst hu
      exact ⟨rfl, rfl, rfl, rfl, rfl, rfl, rfl, rfl, rfl, rfl⟩
    · rw [if_neg hs, if_neg hs]
      subst hu
      exact ⟨rfl, rfl, rfl, rfl, rfl, rfl, rfl, rfl, rfl⟩

/-- 16 bit times, rounded up to whole microseconds (R3, R4). -/
theorem markUs : Config.bitsUs Config.markBits = 13334 := by decide

/-- Settles O12: timer by timer, on a recessive and on a dominant line. -/
theorem lineTimersExpire : Obligations.LineTimersExpire := by
  refine ⟨fun s => ⟨fun hm hp => ?_, fun hr => ?_⟩, fun s hl => ?_, fun s hl hr ha => ?_⟩
  · simp only [exec, execRoundTimerPa]
    rw [if_pos ⟨hm, hp⟩]
    by_cases hd : s.line.dominant = true
    · rw [if_pos hd, paExpiry_of_dominant (s := elapseTo _ _ _) hd]; rfl
    · rw [if_neg hd, paExpiry_of_recessive (s := elapseTo _ _ _) (Bool.of_not_eq_true hd)]; rfl
  · have hx : exec .syncMarkRelease s = _ := congrArg Host.Outcome.next (if_pos hr)
    rw [markUs] at hx
    exact ⟨_, hx, rfl, rfl⟩
  · have hx : exec .silenceEvent s = _ := congrArg Host.Outcome.next (if_pos hl)
    refine ⟨_, hx, fun hd => ?_, fun hd => ?_⟩
    · exact if_pos hd
    · have hn : ¬ (elapseTo s.timers.round (3 * s.paUs) s).line.dominant = true := by
        show ¬ s.line.dominant = true
        rw [hd]; decide
      rw [if_neg hn, lonePacer_of_recessive (s := elapseTo _ _ _) hd]
      exact ⟨rfl, rfl, rfl, rfl, rfl, rfl⟩
  · have hx : exec .isolationTimerExpiry s = _ :=
      congrArg Host.Outcome.next (if_pos ⟨hl, hr, by rw [ha]; decide⟩)
    exact ⟨_, hx, rfl, rfl, rfl, rfl, rfl, rfl, rfl, rfl, rfl, rfl, rfl, rfl, rfl, rfl⟩

end Sys2Proof.Machine

/-! O38, O39, O40. The comparison of the damper machine by what it leaves, the stalls, and the ends of the waits (R120 to
R127). -/

namespace Sys2Proof.Machine

/-! ### What a comparison leaves (R121, R122) -/

/-- The machine enters the PAUSE before a reversal (R122). -/
def Motor.await (m : Motor) : Motor := { m with d := { m.d with machine := .pause, homingPause := false } }

theorem startDrive_eq (dir : Direction) (m : Motor) :
    m.startDrive dir = if dir = m.d.lastDrive ∨ m.rested = true then m.drive dir (travelState dir) else m.await := rfl

/-- A motor that stops now has not rested (R122). -/
theorem stop_rested (m : Motor) : m.stop.rested = false := rfl

/-- The machines that a comparison can leave: the same one, one that enters HOLD or PAUSE with or without a stop before, and
one that begins to drive. -/
inductive Motor.Compares (m : Motor) : Motor → Prop
  | stays (h : m.d.machine ≠ .hold) : Compares m m
  | holds (h : m.d.machine = .hold ∨ m.d.machine = .pause) : Compares m m.enterHold
  | arrives (h : m.d.machine = .opening ∨ m.d.machine = .closing) : Compares m m.stop.enterHold
  | awaits (h : m.d.machine = .hold) : Compares m m.await
  | turns (h : m.d.machine = .opening ∨ m.d.machine = .closing) : Compares m m.stop.await
  | drives (h : m.d.machine = .hold ∨ m.d.machine = .pause) (dir : Direction) :
      Compares m (m.drive dir (travelState dir))

/-- A drive that is to turn back stops into PAUSE (R122). -/
theorem stop_startDrive_reverse {m : Motor} {dir : Direction} (h : dir ≠ m.d.lastDrive) :
    m.stop.startDrive dir = m.stop.await := by
  rw [startDrive_eq, stop_rested]
  exact if_neg (by simpa using h)

theorem compare_compares {m : Motor} (h : m.Follows) : m.Compares m.compare := by
  obtain ⟨ho, hc⟩ := h
  unfold Motor.compare
  cases hm : m.d.machine with
  | parked => exact .stays (by simp [hm])
  | homing => exact .stays (by simp [hm])
  | retry => exact .stays (by simp [hm])
  | fault => exact .stays (by simp [hm])
  | hold =>
    simp only [Motor.compareFromHold, startDrive_eq]
    split_ifs
    · exact .holds (.inl hm)
    · exact .drives (.inl hm) _
    · exact .awaits hm
  | opening =>
    dsimp only
    rw [stop_startDrive_reverse (by rw [ho hm]; decide)]
    split_ifs
    · exact .arrives (.inl hm)
    · exact .stays (by simp [hm])
    · exact .turns (.inl hm)
  | closing =>
    dsimp only
    rw [stop_startDrive_reverse (by rw [hc hm]; decide)]
    split_ifs
    · exact .arrives (.inr hm)
    · exact .stays (by simp [hm])
    · exact .turns (.inr hm)
  | pause =>
    dsimp only
    split_ifs
    · exact .stays (by simp [hm])
    · exact .holds (.inr hm)
    · exact .drives (.inr hm) _
    · exact .stays (by simp [hm])

/-- The drive asked of the bridge is that of the machine's state, in the direction of the last drive (R120). -/
def Motor.Settled (m : Motor) : Prop := m.b.asked = m.d.drive ∧ ∀ h, m.d.drive = some h → m.d.lastDrive = h

theorem Motor.Settled.follows {m : Motor} (h : m.Settled) : m.Follows :=
  ⟨fun hm => h.2 .opening (by simp [Damper.drive, hm]), fun hm => h.2 .closing (by simp [Damper.drive, hm])⟩

theorem DamperSound.settled {s : State} (h : DamperSound s) : s.motor.Settled := ⟨h.2.2.1, h.2.2.2.1⟩

/-- The last drive of a machine is told by its state (R120). -/
theorem Motor.Settled.lastDrive_eq {m : Motor} (h : m.Settled) :
    m.d.lastDrive =
      (match m.d.machine with
      | .opening => .opening
      | .closing => .closing
      | _ => m.d.lastDrive) := by
  obtain ⟨ho, hc⟩ := h.follows
  cases hm : m.d.machine with
  | opening => exact ho hm
  | closing => exact hc hm
  | _ => rfl

theorem driving_hold : DamperState.hold.driving = false := rfl
theorem driving_pause : DamperState.pause.driving = false := rfl

/-- A comparison by what it leaves: direction, stall count, bridge, rest timer and stall timer (R121 to R123). -/
theorem Motor.Compares.spec {m m' : Motor} (hc : m.Compares m') (h : m.Settled) :
    m'.d.lastDrive =
        (match m'.d.machine with
        | .opening => .opening
        | .closing => .closing
        | _ => m.d.lastDrive) ∧
      (m'.d.machine = .hold → m.d.machine ≠ .hold → m'.d.stalls = 0) ∧
      (m'.d.machine ≠ .hold → m'.d.stalls = m.d.stalls) ∧
      m'.d.fault = m.d.fault ∧ m'.d.homed = m.d.homed ∧ m'.b.asked = m'.d.drive ∧
      m'.t.motorRest =
        (if m.d.machine.driving = true ∧ m'.d.machine.driving = false then ⟨true, 0⟩
        else if m.d.machine.driving = false ∧ m'.d.machine.driving = true then ⟨false, 0⟩
        else m.t.motorRest) ∧
      m'.t.stall =
        (if m'.d.machine = m.d.machine then m.t.stall
        else if m'.d.machine.driving = true then ⟨true, 0⟩
        else if m.d.machine.driving = true then ⟨false, 0⟩
        else m.t.stall) := by
  cases hc with
  | stays hm => exact ⟨h.lastDrive_eq, fun e => absurd e hm, fun _ => rfl, rfl, rfl, h.1, by simp, by simp⟩
  | holds hm =>
    have ha : m.b.asked = none := by rw [h.1]; obtain hm | hm := hm <;> simp [Damper.drive, hm]
    have hd : m.d.machine.driving = false := by obtain hm | hm := hm <;> simp [DamperState.driving, hm]
    exact ⟨rfl, fun _ _ => rfl, fun e => absurd rfl e, rfl, rfl, ha, by simp [hd, Motor.enterHold, driving_hold],
      by simp [hd, Motor.enterHold, driving_hold]⟩
  | arrives hm =>
    have hd : m.d.machine.driving = true := by obtain hm | hm := hm <;> simp [DamperState.driving, hm]
    have hn : DamperState.hold ≠ m.d.machine := by obtain hm | hm := hm <;> simp [hm]
    exact ⟨rfl, fun _ _ => rfl, fun e => absurd rfl e, rfl, rfl, rfl,
      by simp [hd, Motor.enterHold, driving_hold, Motor.stop, Timer.started],
      by simp [hd, hn, Motor.enterHold, driving_hold, Motor.stop, Timer.stopped]⟩
  | awaits hm =>
    have ha : m.b.asked = none := by rw [h.1]; simp [Damper.drive, hm]
    exact ⟨rfl, nofun, fun _ => rfl, rfl, rfl, ha, by simp [hm, Motor.await, DamperState.driving],
      by simp [hm, Motor.await, DamperState.driving]⟩
  | turns hm =>
    have hd : m.d.machine.driving = true := by obtain hm | hm := hm <;> simp [DamperState.driving, hm]
    have hn : DamperState.pause ≠ m.d.machine := by obtain hm | hm := hm <;> simp [hm]
    exact ⟨rfl, nofun, fun _ => rfl, rfl, rfl, rfl,
      by simp [hd, Motor.await, driving_pause, Motor.stop, Timer.started],
      by simp [hd, hn, Motor.await, driving_pause, Motor.stop, Timer.stopped]⟩
  | drives hm dir =>
    have hd : m.d.machine.driving = false := by obtain hm | hm := hm <;> simp [DamperState.driving, hm]
    have hn : travelState dir ≠ m.d.machine := by cases dir <;> obtain hm | hm := hm <;> simp [hm, travelState]
    have ht : (travelState dir).driving = true := by cases dir <;> rfl
    refine ⟨?_, ?_, fun _ => rfl, rfl, rfl, ?_, ?_, ?_⟩
    · cases dir <;> rfl
    · cases dir <;> exact nofun
    · cases dir <;> rfl
    · simp [hd, ht, Motor.drive, Timer.stopped]
    · simp [hn, ht, Motor.drive, Timer.started]

/-- A comparison, in the words of the tables: `s` and `t` are the stations before and after it, and the machine compares as
`m`, which has the state of `s` and the position and the target that are compared (R121, R122). -/
theorem damperCompared_of_compare {s t : State} {m : Motor} (h : m.Settled) (ht : t.motor = m.compare)
    (hd : m.d.machine = s.damper.machine ∧ m.d.lastDrive = s.damper.lastDrive ∧
      m.d.homingPause = s.damper.homingPause ∧ m.d.stalls = s.damper.stalls ∧ m.d.fault = s.damper.fault ∧
      m.d.homed = s.damper.homed)
    (hr : m.t.motorRest = s.timers.motorRest) :
    DamperCompared m.d.gap s t ∧
      t.timers.stall =
        (if t.damper.machine = s.damper.machine then m.t.stall
        else if t.damper.machine.driving = true then ⟨true, 0⟩
        else if s.damper.machine.driving = true then ⟨false, 0⟩
        else m.t.stall) := by
  obtain ⟨hlast, hhold, hstalls, hfault, hhomed, hasked, hrest, hstall⟩ := (compare_compares h.follows).spec h
  have hmach := compare_machine h.follows
  have htd : t.damper = m.compare.d := congrArg Motor.d ht
  have htt : t.timers = m.compare.t := congrArg Motor.t ht
  have htb : t.out.bridge = m.compare.b := congrArg Motor.b ht
  obtain ⟨e1, e2, e3, e4, e5, e6⟩ := hd
  rw [e1] at hhold hrest hstall hmach
  rw [e2] at hlast hmach
  rw [e3, hr] at hmach
  rw [hr] at hrest
  unfold DamperCompared
  rw [htd, htt, htb]
  exact ⟨⟨hmach, hlast, hhold, fun e => (hstalls e).trans e4, hfault.trans e5, hhomed.trans e6, hasked, hrest⟩, hstall⟩

/-! ### Pulses (R120, R123) -/

/-- The machine after a pulse has been counted, before it is compared. -/
def Motor.counted (m : Motor) : Motor :=
  { m with
    d := { m.d with position := countPulse m.d.lastDrive m.d.position }
    t := { m.t with stall := if m.d.machine.driving then .started else m.t.stall } }

theorem pulse_of_not_parked {m : Motor} (h : m.d.machine ≠ .parked) : m.pulse = m.counted.compare := if_neg h

theorem countPulse_eq (dir : Direction) (n : Nat) :
    countPulse dir n = if dir = .opening then min 400 (n + 1) else n - 1 := by
  cases dir <;> rfl

/-- Settles O38: a parked machine counts nothing, and any other counts and compares. -/
theorem pulseMovesThePosition : Obligations.PulseMovesThePosition := by
  intro s hr
  have hx : exec .damperPulse s = .next (s.withMotor s.motor.pulse) := congrArg Host.Outcome.next (if_pos hr)
  refine ⟨fun hm => ?_, fun hm => ⟨_, hx, ?_⟩⟩
  · rw [hx, pulse_of_parked hm]; rfl
  have hmoved := compare_moved s.motor.counted
  rw [pulse_of_not_parked hm]
  have hpos : s.motor.counted.compare.d.position = countPulse s.damper.lastDrive s.damper.position :=
    congrArg Damper.position hmoved.damper
  refine ⟨hpos.trans (countPulse_eq _ _), fun hs => ?_, ?_, ?_, rfl⟩
  · have hc := damperCompared_of_compare (s := s) (t := s.withMotor s.motor.counted.compare) (m := s.motor.counted)
      hs.settled rfl ⟨rfl, rfl, rfl, rfl, rfl, rfl⟩ rfl
    obtain ⟨hcomp, hstall⟩ := hc
    refine ⟨?_, ?_⟩
    · rw [withMotor_damper, hpos]
      exact hcomp
    · rw [hstall]
      have hsame : s.motor.counted.t.stall = if s.damper.machine.driving = true then ⟨true, 0⟩ else s.timers.stall := rfl
      rw [hsame]
      by_cases he : (s.withMotor s.motor.counted.compare).damper.machine = s.damper.machine
      · rw [if_pos he, he]; split <;> rfl
      · rw [if_neg he]; split_ifs <;> rfl
  · have := congrArg (fun d : Damper => { d with position := s.damper.position }) hmoved.damper
    exact this
  · have := congrArg (fun t : Timers => { t with stall := s.timers.stall }) hmoved.timers
    exact this

/-! ### Stalls (R123 to R126) -/

/-- A motor that stops conducts in neither half (R168). -/
theorem stop_conducting (m : Motor) : m.stop.b.conducting = none := by
  cases h : m.stop.b.conducting with
  | none => rfl
  | some x => exact nomatch (Bridge.ask_spec none m.b).2 x h

/-- From position 0, after a closing drive that has just ended: at the target, or PAUSE before the opening drive (R121,
R122). -/
theorem compareFromHold_at_zero {m : Motor} (hp : m.d.position = 0) (hl : m.d.lastDrive = .closing)
    (hr : m.rested = false) : m.compareFromHold = if m.d.target ≤ 2 then m.enterHold else m.await := by
  have hat : m.d.atTarget = decide (m.d.target ≤ 2) := by
    unfold Damper.atTarget Damper.gap
    rw [hp]
    exact decide_eq_decide.2 (by omega)
  unfold Motor.compareFromHold
  rw [hat]
  by_cases h : m.d.target ≤ 2
  · rw [if_pos (decide_eq_true h), if_pos h]
  · have hdir : m.d.toward = .opening := if_pos (by unfold Damper.gap; omega)
    rw [if_neg (by simpa using h), if_neg h, startDrive_eq, hdir, hl, hr]
    exact if_neg (by decide)

theorem exec_stall {s : State} (h : s.damper.machine.driving = true) :
    exec .stall s =
      .next ((elapseTo s.timers.stall 500000 s).withMotor (elapseTo s.timers.stall 500000 s).motor.stalled) :=
  congrArg Host.Outcome.next (if_pos h)

theorem stalled_homing {m : Motor} (h : m.d.machine = .homing) : m.stalled = m.stop.completeHoming := by
  unfold Motor.stalled; rw [h]

theorem stalled_closing {m : Motor} (h : m.d.machine = .closing) :
    m.stalled = if m.d.position ≤ 40 then m.stop.rezero else m.stop.countStall := by
  unfold Motor.stalled; rw [h]

theorem stalled_opening {m : Motor} (h : m.d.machine = .opening) : m.stalled = m.stop.countStall := by
  unfold Motor.stalled; rw [h]

/-- Settles O39: by the state in which the drive stalls. -/
theorem stallIsHandledByState : Obligations.StallIsHandledByState := by
  intro s s1 rest
  have hm : s1.motor.d = s.damper := rfl
  refine ⟨fun hh hl => ⟨_, exec_stall (by rw [hh]; rfl), ?_⟩, fun hc hl hp => ⟨_, exec_stall (by rw [hc]; rfl), ?_⟩,
    fun h => ?_⟩
  · rw [show (elapseTo s.timers.stall 500000 s).motor.stalled = _ from stalled_homing (m := s1.motor) hh,
      Motor.completeHoming, compareFromHold_at_zero (by rfl) hl rfl]
    split
    · next ht => exact ⟨rfl, rfl, rfl, rfl, rfl, stop_conducting _, (if_pos ht).symm, rfl, rfl, rfl, rfl, rfl⟩
    · next ht => exact ⟨rfl, rfl, rfl, rfl, rfl, stop_conducting _, (if_neg ht).symm, rfl, rfl, rfl, rfl, rfl⟩
  · rw [show (elapseTo s.timers.stall 500000 s).motor.stalled = _ from stalled_closing (m := s1.motor) hc,
      if_pos (show s1.motor.d.position ≤ 40 from hp),
      Motor.rezero, compareFromHold_at_zero (by rfl) hl rfl]
    split
    · next ht => exact ⟨rfl, rfl, rfl, rfl, stop_conducting _, (if_pos ht).symm, rfl, rfl, rfl, rfl, rfl⟩
    · next ht => exact ⟨rfl, rfl, rfl, rfl, stop_conducting _, (if_neg ht).symm, rfl, rfl, rfl, rfl, rfl⟩
  · have hd : s.damper.machine.driving = true := by obtain h | ⟨h, -⟩ := h <;> rw [h] <;> rfl
    have hs : s1.motor.stalled = s1.motor.stop.countStall := by
      obtain h | ⟨h, hp⟩ := h
      · exact stalled_opening h
      · rw [stalled_closing h, if_neg (show ¬ s1.motor.d.position ≤ 40 from Nat.not_le.2 hp)]
    refine ⟨_, exec_stall hd, ?_⟩
    rw [show (elapseTo s.timers.stall 500000 s).motor.stalled = _ from hs, Motor.countStall]
    by_cases h2 : s.damper.stalls < 2
    · rw [if_pos (show s1.motor.stop.d.stalls + 1 < 3 from Nat.succ_lt_succ h2)]
      exact ⟨rfl, rfl, rfl, stop_conducting _, rfl, fun _ => ⟨rfl, rfl, rfl, rfl⟩, fun h => absurd h2 (Nat.not_lt.2 h),
        rfl, rfl, rfl, rfl⟩
    · rw [if_neg (show ¬ s1.motor.stop.d.stalls + 1 < 3 from fun h => h2 (Nat.lt_of_succ_lt_succ h))]
      exact ⟨rfl, rfl, rfl, stop_conducting _, rfl, fun h => absurd h h2, fun _ => ⟨rfl, rfl, rfl⟩, rfl, rfl, rfl, rfl⟩

/-! ### The ends of the waits (R122, R125 to R127) -/

/-- A motor that has rested drives toward the target at once, if it is not there (R121, R122). -/
theorem compareFromHold_rested {m : Motor} (hr : m.rested = true) :
    m.compareFromHold =
      if -2 ≤ m.d.gap ∧ m.d.gap ≤ 2 then m.enterHold
      else if 2 < m.d.gap then m.drive .opening .opening
      else m.drive .closing .closing := by
  unfold Motor.compareFromHold
  by_cases h : -2 ≤ m.d.gap ∧ m.d.gap ≤ 2
  · rw [if_pos h, if_pos (show m.d.atTarget = true from decide_eq_true h)]
  · have hn : m.d.atTarget = false := decide_eq_false h
    rw [if_neg h, if_neg (by rw [hn]; decide), startDrive_eq, if_pos (.inr hr), toward_of_not_atTarget hn]
    split <;> rfl

/-- A running timer is at its limit or past it when its expiry has come (notes/assumptions/2). -/
theorem elapse_reaches {t : Timer} (h : t.running = true) (limit : Nat) : limit ≤ (t.elapse (limit - t.us)).us := by
  unfold Timer.elapse
  rw [if_pos h]
  show limit ≤ t.us + (limit - t.us)
  omega

theorem exec_pauseEnd {s : State} (h : s.damper.machine = .pause) :
    exec .pauseEnd s =
      .next ((elapseTo s.timers.motorRest 200000 s).withMotor (elapseTo s.timers.motorRest 200000 s).motor.pauseEnd) :=
  congrArg Host.Outcome.next (if_pos h)

theorem exec_retryEnd {s : State} (h : s.damper.machine = .retry) :
    exec .retryEnd s =
      .next ((elapseTo s.timers.retry 2000000 s).withMotor (elapseTo s.timers.retry 2000000 s).motor.retryEnd) :=
  congrArg Host.Outcome.next (if_pos h)

theorem exec_homingTimeout {s : State} (h : s.damper.seeking = true) :
    exec .homingTimeout s =
      .next ((elapseTo s.timers.homing 30000000 s).withMotor (elapseTo s.timers.homing 30000000 s).motor.homingFailed) :=
  congrArg Host.Outcome.next (if_pos h)

/-- A homing that fails stops a motor that it drives, and enters FAULT (R127). -/
theorem homingFailed_spec (m : Motor) :
    m.homingFailed.d = { m.d with machine := .fault, homingPause := false, fault := true } ∧
      m.homingFailed.t.homing = ⟨false, 0⟩ ∧ (m.d.machine.driving = true → m.homingFailed.b = m.stop.b) := by
  unfold Motor.homingFailed
  dsimp only
  split
  · exact ⟨rfl, rfl, fun _ => rfl⟩
  · next h => exact ⟨rfl, rfl, fun h' => absurd h' h⟩

/-- The machine after its retry timer has stopped, before it is compared (R125). -/
def Motor.retryOver (m : Motor) : Motor := { m with t := { m.t with retry := .stopped } }

/-- Settles O40: wait by wait. -/
theorem damperWaitsEnd : Obligations.DamperWaitsEnd := by
  intro s d toward
  have htoward {m : Motor} (hr : m.rested = true) (hd : m.d = s.damper) (hb : m.b = s.out.bridge) (u : State) :
      toward (u.withMotor m.compareFromHold) := by
    have hg : m.d.gap = d := by rw [hd]; rfl
    have hkept : m.d.position = s.damper.position ∧ m.d.fault = s.damper.fault ∧ m.d.homed = s.damper.homed := by
      rw [hd]; exact ⟨rfl, rfl, rfl⟩
    rw [compareFromHold_rested hr, hg]
    show (_ = _) ∧ _
    split_ifs
    · exact ⟨rfl, congrArg Bridge.asked hb, hkept⟩
    · exact ⟨rfl, rfl, hkept⟩
    · exact ⟨rfl, rfl, hkept⟩
  refine ⟨fun hm hp => ⟨_, exec_pauseEnd hm, ?_⟩, fun hm hp hr => ⟨_, exec_pauseEnd hm, ?_⟩,
    fun hm he hr => ⟨_, exec_retryEnd hm, ?_, ?_⟩, fun hs => ⟨_, exec_homingTimeout hs, ?_⟩⟩
  · rw [Motor.pauseEnd, if_pos (show (elapseTo s.timers.motorRest 200000 s).motor.d.homingPause = true from hp)]
    exact ⟨rfl, rfl, rfl, rfl, rfl⟩
  · have hn : ¬ (elapseTo s.timers.motorRest 200000 s).motor.d.homingPause = true := by
      show ¬ s.damper.homingPause = true
      rw [hp]; decide
    rw [Motor.pauseEnd, if_neg hn]
    exact htoward (decide_eq_true (elapse_reaches hr _)) rfl rfl _
  · have hle : 2000000 ≤ (elapseTo s.timers.retry 2000000 s).timers.motorRest.us := by
      show _ ≤ (s.timers.motorRest.elapse _).us
      rw [he]
      exact elapse_reaches hr _
    exact htoward (m := (elapseTo s.timers.retry 2000000 s).motor.retryOver) (decide_eq_true (Nat.le_trans (by decide) hle))
      rfl rfl _
  · have := congrArg Timers.retry (compareFromHold_moved (elapseTo s.timers.retry 2000000 s).motor.retryOver).timers
    exact this
  · obtain ⟨hd, ht, hb⟩ := homingFailed_spec (elapseTo s.timers.homing 30000000 s).motor
    rw [withMotor_damper, withMotor_timers, withMotor_bridge, hd]
    refine ⟨rfl, rfl, rfl, fun hsound => ?_, ht, fun hm => ?_, rfl, rfl⟩
    · exact hsound.2.2.2.2.2.2 (of_decide_eq_true hs)
    · rw [hb (show s.damper.machine.driving = true by rw [hm]; rfl)]
      exact ⟨rfl, stop_conducting _⟩

end Sys2Proof.Machine

/-! O10, O11. The round start: the station's image, and the staged values that take effect (R6, R15, R21 to R34, R119,
R134, R136, R148). -/

namespace Sys2Proof.Machine

/-! ### Bytes made of weighed flags (R27, R28) -/

theorem weigh_flags_bits : ∀ a b c d : Bool,
    (BitVec.ofNat 4 (weigh a 8 + weigh b 4 + weigh c 2 + weigh d 1)).getLsbD 3 = a ∧
      (BitVec.ofNat 4 (weigh a 8 + weigh b 4 + weigh c 2 + weigh d 1)).getLsbD 2 = b ∧
      (BitVec.ofNat 4 (weigh a 8 + weigh b 4 + weigh c 2 + weigh d 1)).getLsbD 1 = c ∧
      (BitVec.ofNat 4 (weigh a 8 + weigh b 4 + weigh c 2 + weigh d 1)).getLsbD 0 = d := by
  decide

theorem weigh_handler_bits : ∀ a b c d : Bool, ∀ i < 8,
    (BitVec.ofNat 8 (weigh a 64 + weigh b 32 + weigh c 16 + weigh d 8)).getLsbD i =
      [false, false, false, d, c, b, a, false].getD i false := by
  decide

theorem weigh_outdoor_bits : ∀ a b c d : Bool, ∀ i < 8,
    (BitVec.ofNat 8 (weigh a 128 + weigh b 4 + weigh c 2 + weigh d 1)).getLsbD i =
      [d, c, b, false, false, false, false, a].getD i false := by
  decide

/-- The PLANT bits that the station owns, bit by bit (R27). -/
theorem plantByte_getLsbD (s : State) {i : Nat} (hi : i < 8) :
    s.plantByte.getLsbD i =
      [decide (s.role = .outdoor ∧ 0 < s.outdoor.speed), decide (s.role = .outdoor ∧ s.outdoor.defrost ≠ .normal),
        decide (s.role = .outdoor ∧ s.outdoor.lockout = true), decide (s.role = .handler ∧ s.out.tripActive = true),
        decide (s.role = .handler ∧ s.handler.coilFrost = true),
        decide (s.role = .handler ∧ 0 < s.out.blower.applied),
        decide (s.role = .handler ∧ s.handler.supplyHot = true),
        decide (s.role = .outdoor ∧ s.out.tripActive = true)].getD i false := by
  have hi' : i = 0 ∨ i = 1 ∨ i = 2 ∨ i = 3 ∨ i = 4 ∨ i = 5 ∨ i = 6 ∨ i = 7 := by omega
  unfold State.plantByte
  cases hr : s.role with
  | zone => rcases hi' with rfl | rfl | rfl | rfl | rfl | rfl | rfl | rfl <;> simp
  | absent => rcases hi' with rfl | rfl | rfl | rfl | rfl | rfl | rfl | rfl <;> simp
  | handler =>
    dsimp only
    rw [weigh_handler_bits _ _ _ _ i hi]
    simp [State.fanRun, State.overflow, hr]
  | outdoor =>
    dsimp only
    rw [weigh_outdoor_bits _ _ _ _ i hi]
    simp [State.hpTrip, State.defrosting, State.compRun, hr]

/-! ### The slow items (R32 to R34) -/

/-- A temperature reading's code as a number, 255 while invalid (R71). -/
def tempNumber (r : Option Int) : Nat :=
  match r with
  | some x => if x < -200 then 0 else min 255 ((2 * (x + 200) + 5) / 10).toNat
  | none => 255

/-- A humidity reading's code as a number, 255 while invalid (R71). -/
def humNumber (r : Option Int) : Nat :=
  match r with
  | some h => min 200 ((2 * h.toNat + 5) / 10)
  | none => 255

theorem tempCode_toNat (x : Int) : (tempCode x).toNat = tempNumber (some x) % 256 := by
  unfold tempCode tempNumber
  dsimp only
  by_cases h : x < -200
  · rw [if_pos (by omega), if_pos h]; rfl
  · rw [if_neg (by omega), BitVec.toNat_ofNat, if_neg h]
    omega

theorem tempItem_toNat (r : Option Int) : (tempItem r).toNat = tempNumber r % 256 := by
  cases r with
  | none => rfl
  | some x => exact tempCode_toNat x

theorem humItem_toNat (r : Option Int) : (humItem r).toNat = humNumber r % 256 := by
  cases r <;> rfl

/-- Slow item 10 at a station that may drive (R34). -/
theorem statusItem_toNat {s : State} (h : s.mayDrive = true) :
    s.statusItem.toNat =
      ((if s.health.link = .joined then 2 else 3) + weigh (decide (s.meas.a.ring.length < 4)) 8 +
        weigh (decide (s.meas.b.ring.length < 4)) 16 + weigh (decide (s.role = .zone ∧ s.damper.fault = true)) 32 +
        weigh (decide (s.role = .zone ∧ s.damper.homed = false)) 64 +
        weigh (decide (s.role = .outdoor ∧ s.outdoor.lockout = true)) 128) % 256 := by
  have hlink : linkCode s.health.link = if s.health.link = .joined then 2 else 3 := by
    unfold State.mayDrive at h
    obtain hl | hl := of_decide_eq_true h <;> rw [hl] <;> rfl
  have hvalid (c : CaptureChannel) : (!c.valid) = decide (c.ring.length < 4) := by
    rw [CaptureChannel.valid, ← decide_not]
    exact decide_eq_decide.2 Nat.not_le
  unfold State.statusItem
  rw [BitVec.toNat_ofNat, hlink, hvalid, hvalid]
  simp

theorem size_eq_weigh (t : TestSet) : t.size = weigh t.role.isSome 1 + weigh t.corrupt 1 + weigh t.mute 1 := by
  rcases t with ⟨_ | _, c, m⟩ <;> cases c <;> cases m <;> rfl

/-! ### The image (R21 to R29, R174, R178) -/

theorem roundImage_reply (s : State) :
    s.roundImage.reply =
      s.dir.reply.map fun r =>
        BitVec.ofNat 16 (4096 * s.rst.address.toNat + 256 * r.status.toNat + r.data.toNat) := by
  refine congrArg (fun f => s.dir.reply.map f) (funext fun r => BitVec.eq_of_toNat_eq ?_)
  have := s.rst.address.isLt
  have := r.status.isLt
  have := r.data.isLt
  rw [packReply_toNat, BitVec.toNat_ofNat]
  omega

theorem headDirective_eq (s : State) :
    s.headDirective =
      if s.health.link = .joined then
        s.dir.queue.head?.map fun e =>
          BitVec.ofNat 24 (1048576 * (15 - s.rst.address.toNat) + 65536 * 15 + 256 * e.code.toNat + e.arg.toNat)
      else none := by
  unfold State.headDirective
  split_ifs
  · cases s.dir.queue with
    | nil => rfl
    | cons e _ =>
      refine congrArg some (BitVec.eq_of_toNat_eq ?_)
      have := e.code.isLt
      have := e.arg.isLt
      rw [packDirective_toNat, BitVec.toNat_ofNat]
      rw [show (15 : Nibble).toNat = 15 from rfl]
      dsimp only
      omega
  · rfl

/-- A round start takes the image of a station that may drive (R15). -/
theorem exec_roundStart {s : State} (h : s.line.rx = .syncSeen) : exec .roundStart s = .next (roundStart s) :=
  congrArg Host.Outcome.next (if_pos h)

theorem roundStart_image {s : State} (h : s.mayDrive = true) : (roundStart s).asm.image = some s.roundImage := by
  unfold roundStart
  rw [roleRoundStart_asm]
  exact if_pos h

theorem roundImage_idx_toNat (s : State) : s.roundImage.idx.toNat = (s.asm.index.toNat + 1) % 16 :=
  BitVec.toNat_add _ _

/-- Settles O11: field by field, and the slow items by their numbers. -/
theorem roundImageCarriesTheStation : Obligations.RoundImageCarriesTheStation := by
  intro s hr hm a zone handler outdoor bit tests temp hum faults
  obtain ⟨f3, f2, f1, f0⟩ := weigh_flags_bits s.health.disagree s.holdoverFlag s.testFlag s.warmup
  have hsize : s.dir.tests.size = tests := size_eq_weigh s.dir.tests
  have htest : s.testFlag = decide (0 < tests) := by
    rw [State.testFlag, hsize]
    exact decide_eq_decide.2 Nat.ne_zero_iff_zero_lt
  have hstatus : s.statusItem.toNat = faults % 256 := statusItem_toNat hm
  have hidx : s.roundImage.idx.toNat < 16 := s.roundImage.idx.isLt
  have hplant {i : Nat} (hi : i < 8) : s.roundImage.plant.getLsbD i = _ := plantByte_getLsbD s hi
  refine ⟨_, exec_roundStart hr, s.roundImage, roundStart_image hm, roundImage_idx_toNat s, rfl, rfl, f3, f2, f1.trans htest,
    f0, hplant (by decide), hplant (by decide), hplant (by decide), hplant (by decide), hplant (by decide),
    hplant (by decide), hplant (by decide), hplant (by decide), headDirective_eq s, roundImage_reply s, rfl,
    fun hz => ?_, fun hz => ?_, fun hh => ?_, fun ho => ?_⟩
  · have hz' : s.role = .zone := hz
    have hcall (c : Call) : s.callBit c = if s.zone.call = c then s.roundImage.pres else 0 := by
      simp [State.callBit, hz', State.roundImage]
    have hpeak (c : Call) : s.peak c = if s.zone.call = c then some (BitVec.ofNat 8 s.zone.d) else none := by
      simp [State.peak, hz']
    have hshare : s.shareByte = BitVec.ofNat 8 s.damper.request := by unfold State.shareByte; rw [hz']
    have hslow : s.roundImage.slow = s.zoneItem s.roundImage.idx.toNat := by
      show s.slowItem _ = _
      unfold State.slowItem; rw [hz']; rfl
    refine ⟨congrArg BitVec.toNat hshare, hcall _, hcall _, hcall _, hpeak _, hpeak _, ?_⟩
    rw [hslow]
    generalize s.roundImage.idx.toNat = i at hidx
    match i, hidx with
    | 0, _ => rfl
    | 1, _ => exact tempItem_toNat _
    | 2, _ => exact humItem_toNat _
    | 3, _ => exact tempCode_toNat _
    | 4, _ => exact tempCode_toNat _
    | 5, _ => rfl
    | 6, _ => rfl
    | 7, _ => rfl
    | 8, _ => rfl
    | 9, _ => rfl
    | 10, _ => exact hstatus
    | 11, _ => rfl
    | 12, _ => exact tempItem_toNat _
    | 13, _ => exact humItem_toNat _
    | 14, _ => rfl
    | 15, _ => rfl
    | i + 16, hi => exact absurd hi (by omega)
  · have hz' : ¬ s.role = .zone := hz
    have hcall (c : Call) : s.callBit c = 0 := by simp [State.callBit, hz']
    have hpeak (c : Call) : s.peak c = none := by simp [State.peak, hz']
    exact ⟨hcall _, hcall _, hcall _, hpeak _, hpeak _⟩
  · have hh' : s.role = .handler := hh
    have hshare : s.shareByte = BitVec.ofNat 8 (64 * (s.param + 1) / 8) := by unfold State.shareByte; rw [hh']; rfl
    have hslow : s.roundImage.slow = s.handlerItem s.roundImage.idx.toNat := by
      show s.slowItem _ = _
      unfold State.slowItem; rw [hh']; rfl
    refine ⟨(congrArg BitVec.toNat hshare).trans ?_, ?_⟩
    · have : s.param < 16 := s.rst.parameter.isLt
      rw [BitVec.toNat_ofNat]
      omega
    · rw [hslow]
      generalize s.roundImage.idx.toNat = i at hidx
      match i, hidx with
      | 0, _ => rfl
      | 1, _ => exact tempItem_toNat _
      | 2, _ => exact tempItem_toNat _
      | 3, _ => rfl
      | 4, _ => rfl
      | 5, _ => rfl
      | 6, _ => rfl
      | 7, _ => rfl
      | 8, _ => rfl
      | 9, _ => rfl
      | 10, _ => exact hstatus
      | 11, _ => exact congrArg (· % 256) hsize
      | 12, _ => exact tempItem_toNat _
      | 13, _ => exact tempItem_toNat _
      | 14, _ => rfl
      | 15, _ => rfl
      | i + 16, hi => exact absurd hi (by omega)
  · have ho' : s.role = .outdoor := ho
    have hshare : s.shareByte = BitVec.ofNat 8 s.outdoor.speed := by unfold State.shareByte; rw [ho']
    have hslow : s.roundImage.slow = s.outdoorItem s.roundImage.idx.toNat := by
      show s.slowItem _ = _
      unfold State.slowItem; rw [ho']; rfl
    refine ⟨congrArg BitVec.toNat hshare, ?_⟩
    rw [hslow]
    generalize s.roundImage.idx.toNat = i at hidx
    match i, hidx with
    | 0, _ => rfl
    | 1, _ => exact tempItem_toNat _
    | 2, _ => exact tempItem_toNat _
    | 3, _ => rfl
    | 4, _ => rfl
    | 5, _ => rfl
    | 6, _ => rfl
    | 7, _ => rfl
    | 8, _ => rfl
    | 9, _ => rfl
    | 10, _ => exact hstatus
    | 11, _ => exact congrArg (· % 256) hsize
    | 12, _ => exact tempItem_toNat _
    | 13, _ => exact tempItem_toNat _
    | 14, _ => rfl
    | 15, _ => rfl
    | i + 16, hi => exact absurd hi (by omega)

/-! ### The staged values (R119, R134, R136, R148) -/

/-- The machine with its target replaced, before it is compared (R119). -/
def Motor.retarget (n : Nat) (m : Motor) : Motor := { m with d := { m.d with target := n } }

theorem setTarget_of_ne {n : Nat} {m : Motor} (h : m.d.target ≠ n) : m.setTarget n = (m.retarget n).compare := if_neg h

theorem setTarget_of_eq {n : Nat} {m : Motor} (h : m.d.target = n) : m.setTarget n = m := if_pos h

/-- A target in effect leaves the rest of the damper block but for what a comparison moves (R119, R121). -/
theorem setTarget_frame (n : Nat) (m : Motor) :
    { (m.setTarget n).d with
        machine := m.d.machine, lastDrive := m.d.lastDrive, homingPause := m.d.homingPause, stalls := m.d.stalls } =
        { m.d with target := n } ∧
      { (m.setTarget n).t with stall := m.t.stall, motorRest := m.t.motorRest, bridgeDead := m.t.bridgeDead } = m.t := by
  by_cases h : m.d.target = n
  · rw [setTarget_of_eq h, ← h]
    exact ⟨rfl, rfl⟩
  · rw [setTarget_of_ne h]
    exact ⟨(compare_moved (m.retarget n)).damper, (compare_moved (m.retarget n)).timers⟩

/-- A target in effect that changes is compared with the position at once, with the stall timer of R123 (R119, R121): `s` is
the station before it and `t` after it, and `m` is the machine of `s` with another request, grant, position in percent or
pending target. -/
theorem damperCompared_of_setTarget {s t : State} {m : Motor} {n : Nat} (hs : DamperSound s) (hn : n ≠ s.damper.target)
    (hd : m.d = { s.damper with
      request := m.d.request, grant := m.d.grant, percent := m.d.percent, pending := m.d.pending })
    (hb : m.b = s.out.bridge) (hr : m.t.motorRest = s.timers.motorRest ∧ m.t.stall = s.timers.stall)
    (ht : t.motor = m.setTarget n) :
    DamperCompared ((n : Int) - s.damper.position) s t ∧
      t.timers.stall =
        (if t.damper.machine = s.damper.machine then s.timers.stall
        else if t.damper.machine.driving = true then ⟨true, 0⟩
        else if s.damper.machine.driving = true then ⟨false, 0⟩
        else s.timers.stall) := by
  have hmach : m.d.machine = s.damper.machine := by rw [hd]
  have hlast : m.d.lastDrive = s.damper.lastDrive := by rw [hd]
  have hdrive : m.d.drive = s.damper.drive := by unfold Damper.drive; rw [hmach]
  have hset : (m.retarget n).Settled := by
    obtain ⟨ha, hl⟩ := hs.settled
    refine ⟨?_, fun h hh => ?_⟩
    · show m.b.asked = m.d.drive
      rw [hb, hdrive]; exact ha
    · show m.d.lastDrive = h
      rw [hlast]
      exact hl h (hdrive ▸ hh)
  have hne : m.d.target ≠ n := by rw [hd]; exact Ne.symm hn
  rw [setTarget_of_ne hne] at ht
  have hc := damperCompared_of_compare (s := s) hset ht
    ⟨hmach, hlast, by show m.d.homingPause = _; rw [hd], by show m.d.stalls = _; rw [hd],
      by show m.d.fault = _; rw [hd], by show m.d.homed = _; rw [hd]⟩ hr.1
  have hg : (m.retarget n).d.gap = (n : Int) - s.damper.position := by
    show (n : Int) - m.d.position = _
    rw [hd]
  rw [hg, show (m.retarget n).t.stall = s.timers.stall from hr.2] at hc
  exact hc

/-- The station at a round start before the staged values of its role take effect (R6). -/
def State.roundOpened (s : State) : State :=
  { s with
    line := s.line.start s.mayDrive
    asm := { s.asm with image := if s.mayDrive then some s.roundImage else none }
    health := s.health.start
    dir := { s.dir with reply := if s.mayDrive then none else s.dir.reply }
    timers := { s.timers with round := .started, run := .stopped } }

theorem roundStart_eq (s : State) : roundStart s = roleRoundStart s.roundOpened := rfl

theorem roleRoundStart_of_zone {u : State} (h : u.role = .zone) :
    roleRoundStart u = u.withMotor (u.motor.setTarget (targetInEffect u.dir.tests.role u.damper.pending)) := by
  unfold roleRoundStart; rw [h]; rfl

theorem roleRoundStart_of_handler {u : State} (h : u.role = .handler) : roleRoundStart u = handlerRoundStart u := by
  unfold roleRoundStart; rw [h]

theorem roleRoundStart_of_outdoor {u : State} (h : u.role = .outdoor) : roleRoundStart u = outdoorRoundStart u := by
  unfold roleRoundStart; rw [h]

theorem roleRoundStart_of_absent {u : State} (h : u.role = .absent) : roleRoundStart u = u := by
  unfold roleRoundStart; rw [h]

/-- Settles O10: role by role. -/
theorem trailingEdgeStartsARound : Obligations.TrailingEdgeStartsARound := by
  intro s hr
  refine ⟨_, exec_roundStart hr, ?_⟩
  rw [roundStart_eq]
  cases hrole : s.role with
  | zone =>
    rw [roleRoundStart_of_zone (u := s.roundOpened) hrole]
    obtain ⟨hd, ht⟩ := setTarget_frame (targetInEffect s.dir.tests.role s.damper.pending) s.roundOpened.motor
    have hround := congrArg Timers.round ht
    have htarget := congrArg Damper.target hd
    have hpos := congrArg Damper.position hd
    refine ⟨hround, rfl, rfl, rfl, rfl, fun _ => ⟨htarget, hpos, fun hn => ?_, fun hn hs => ?_⟩, fun h => absurd rfl h, nofun,
      fun _ => ⟨rfl, rfl, rfl⟩, nofun, fun _ => rfl, rfl⟩
    · have he : s.roundOpened.motor.setTarget (targetInEffect s.dir.tests.role s.damper.pending) = s.roundOpened.motor :=
        setTarget_of_eq (Eq.symm hn)
      show (s.roundOpened.motor.setTarget (targetInEffect s.dir.tests.role s.damper.pending)).d = _ ∧
        (s.roundOpened.motor.setTarget (targetInEffect s.dir.tests.role s.damper.pending)).b = _
      rw [he]
      exact ⟨rfl, rfl⟩
    · exact damperCompared_of_setTarget (m := s.roundOpened.motor) hs hn rfl rfl ⟨rfl, rfl⟩ rfl
  | handler =>
    rw [roleRoundStart_of_handler (u := s.roundOpened) hrole]
    exact ⟨rfl, rfl, rfl, rfl, rfl, nofun, fun _ => ⟨rfl, rfl⟩, fun _ => ⟨rfl, rfl, rfl, rfl⟩, fun h => absurd rfl h, nofun,
      fun _ => rfl, rfl⟩
  | outdoor =>
    rw [roleRoundStart_of_outdoor (u := s.roundOpened) hrole]
    exact ⟨rfl, rfl, rfl, rfl, rfl, nofun, fun _ => ⟨rfl, rfl⟩, nofun, fun _ => ⟨rfl, rfl, rfl⟩, fun _ => rfl,
      fun h => absurd rfl h, rfl⟩
  | absent =>
    rw [roleRoundStart_of_absent (u := s.roundOpened) hrole]
    exact ⟨rfl, rfl, rfl, rfl, rfl, nofun, fun _ => ⟨rfl, rfl⟩, nofun, fun _ => ⟨rfl, rfl, rfl⟩, nofun, fun _ => rfl, rfl⟩

end Sys2Proof.Machine

/-! O9, O17. What a window leaves in the line block, complete or cut short (R8, R10, R16 to R19). -/

namespace Sys2Proof.Machine

/-- A decision leaves the line block, but that an entry to ISOLATED takes the permission (R55). -/
theorem takeDecision_line (v : Verdict) (w : View) (s : State) :
    { (takeDecision v w s).line with permission := s.line.permission } = s.line := by
  rcases takeDecision_cases v w s with ⟨-, h⟩ | ⟨-, -, h⟩ | ⟨-, -, -, h⟩ | ⟨-, -, -, _, _, -, h⟩ | ⟨_, _, _, h, -⟩ <;>
    rw [h]
  · rw [enterIsolated_line]; rfl
  · rw [enterIsolated_line]; rfl
  · rw [handOn_line]; rfl
  · rfl

/-! ### The outcomes (R10, R18) -/

theorem outcomeOf_eq_map {w : Nat} (own : Option (BitVec w)) (wire : BitVec w) :
    outcomeOf true own wire = own.map fun x => arbitrationOf x wire := by
  cases own <;> rfl

theorem outcomeOf_unfinished {w : Nat} (own : Option (BitVec w)) (wire : BitVec w) :
    outcomeOf false own wire = own.map fun _ => .lost := by
  cases own <;> rfl

/-- A field of a cut window: compared as it came when its last bit has ended, LOST otherwise (R10). -/
theorem outcomeOf_cut {start width : Nat} (h : start + width ≤ 384) (own : Option (BitVec width)) (data : RoundBits)
    {ended bits : Nat} (hle : ended ≤ bits) :
    (¬ start + width ≤ ended →
        outcomeOf (decide (start + width ≤ ended)) own (fieldAt start width (keepFirst bits data)) =
          own.map fun _ => .lost) ∧
      (start + width ≤ ended →
        outcomeOf (decide (start + width ≤ ended)) own (fieldAt start width (keepFirst bits data)) =
          own.map fun x => arbitrationOf x (fieldAt start width data)) := by
  refine ⟨fun hn => ?_, fun hy => ?_⟩
  · rw [decide_eq_false hn]
    exact outcomeOf_unfinished ..
  · rw [decide_eq_true hy, fieldAt_keepFirst h (Nat.le_trans hy hle)]
    exact outcomeOf_eq_map ..

/-- The outcomes of a window that a sync cuts short, `us` after the round start (R10, R18, R20). -/
theorem outcomesOf_cut (im : Image) (us : Nat) (data : RoundBits) :
    let wire := viewOf data
    let o := outcomesOf im (dataBitsIn (bitsEndedBy us)) (viewOf (keepFirst (dataBitsIn (samplesBy us)) data))
    (3 * us < 2500 * 6 → o.idx = some .lost) ∧
      (2500 * 6 ≤ 3 * us → o.idx = some (arbitrationOf im.idx wire.idx)) ∧
      (3 * us < 2500 * 96 → o.peakc = im.peakc.map fun _ => .lost) ∧
      (2500 * 96 ≤ 3 * us → o.peakc = im.peakc.map fun x => arbitrationOf x wire.peakc) ∧
      (3 * us < 2500 * 106 → o.peakh = im.peakh.map fun _ => .lost) ∧
      (2500 * 106 ≤ 3 * us → o.peakh = im.peakh.map fun x => arbitrationOf x wire.peakh) ∧
      (3 * us < 2500 * 131 → o.state = some .lost) ∧
      (2500 * 131 ≤ 3 * us → o.state = some (arbitrationOf im.state wire.state)) ∧
      (3 * us < 2500 * 441 → o.directive = im.directive.map fun _ => .lost) ∧
      (2500 * 441 ≤ 3 * us → o.directive = im.directive.map fun x => arbitrationOf x wire.directive) := by
  intro wire o
  have hle : dataBitsIn (bitsEndedBy us) ≤ dataBitsIn (samplesBy us) := dataBitsIn_mono (bitsEndedBy_le_samplesBy us)
  obtain ⟨hi, hpc, hph, hst, hdi⟩ := fields_ended_iff us
  have hidx := outcomeOf_cut (start := 0) (width := 4) (by decide) (some im.idx) data hle
  have hpeakc := outcomeOf_cut (start := 68) (width := 8) (by decide) im.peakc data hle
  have hpeakh := outcomeOf_cut (start := 76) (width := 8) (by decide) im.peakh data hle
  have hstate := outcomeOf_cut (start := 92) (width := 12) (by decide) (some im.state) data hle
  have hdir := outcomeOf_cut (start := 328) (width := 24) (by decide) im.directive data hle
  exact ⟨fun h => hidx.1 fun h' => Nat.not_le.2 h (hi.1 h'), fun h => hidx.2 (hi.2 h),
    fun h => hpeakc.1 fun h' => Nat.not_le.2 h (hpc.1 h'), fun h => hpeakc.2 (hpc.2 h),
    fun h => hpeakh.1 fun h' => Nat.not_le.2 h (hph.1 h'), fun h => hpeakh.2 (hph.2 h),
    fun h => hstate.1 fun h' => Nat.not_le.2 h (hst.1 h'), fun h => hstate.2 (hst.2 h),
    fun h => hdir.1 fun h' => Nat.not_le.2 h (hdi.1 h'), fun h => hdir.2 (hdi.2 h)⟩

/-! ### The station that comes to a decision (R8, R10, R13) -/

/-- The data bits that a cut finds sampled, and those that have ended (R3, R10). -/
def State.sampledBits (s : State) : Nat := dataBitsIn (samplesBy s.timers.round.us)

/-- The data of a cut window: the bits that have been sampled (R10). -/
def State.cutData (levels : RoundBits) (s : State) : RoundBits := keepFirst s.sampledBits levels

/-- The station whose window a sync has cut short, before the decision (R10). -/
def State.cutRead (levels : RoundBits) (s : State) : State :=
  { s with
    line :=
      { s.line.read s.rst.address s.asm.image s.sampledBits (dataBitsIn (bitsEndedBy s.timers.round.us))
          (s.cutData levels) with
        rx := .syncSeen, framing := true }
    health := s.health.read s.rst.address s.asm.image s.sampledBits (s.cutData levels) }

theorem cutShort_eq (levels : RoundBits) (s : State) :
    cutShort levels s = takeDecision .incomplete (viewOf (s.cutData levels)) (s.cutRead levels) := rfl

theorem cutRead_outcomes {levels : RoundBits} {s : State} {im : Image} (h : s.asm.image = some im) :
    (s.cutRead levels).line.outcomes =
      outcomesOf im (dataBitsIn (bitsEndedBy s.timers.round.us)) (viewOf (s.cutData levels)) := by
  unfold State.cutRead; rw [h]; rfl

theorem cutRead_outcomes_none {levels : RoundBits} {s : State} (h : s.asm.image = none) :
    (s.cutRead levels).line.outcomes = .cleared := by
  unfold State.cutRead; rw [h]; rfl

/-- The station whose window is complete, before the decision (R8). -/
def State.closed (w : Window) (s : State) : State :=
  { s with
    line :=
      { s.line.read s.rst.address s.asm.image 384 384 w.data with
        rx := .idle, framing := s.line.framing || framingIn w }
    health := s.health.read s.rst.address s.asm.image 384 w.data }

theorem windowEnd_eq (w : Window) (s : State) :
    windowEnd w s = takeDecision (verdictOf (s.line.framing || framingIn w) w.data) (viewOf w.data) (s.closed w) := rfl

theorem closed_outcomes {w : Window} {s : State} {im : Image} (h : s.asm.image = some im) :
    (s.closed w).line.outcomes = outcomesOf im 384 (viewOf w.data) := by
  unfold State.closed; rw [h]; rfl

theorem closed_driven {w : Window} {s : State} {im : Image} (h : s.asm.image = some im) :
    (s.closed w).line.driven = im.driven s.rst.address w.data := by
  unfold State.closed; rw [h]
  exact viewOf_bitsOf _

/-- 12 bit times (R3, R5). -/
theorem syncUs : Config.bitsUs Config.syncBits = 10000 := by decide

/-- A bad decision that is taken, or none at all, leaves what the round held (R40). -/
theorem takeDecision_bad_keeps {v : Verdict} (w : View) (s : State) (hv : v.isAccepted = false) :
    (takeDecision v w s).health.view = s.health.view ∧ (takeDecision v w s).health.plant = s.health.plant ∧
      (takeDecision v w s).health.clashCount = s.health.clashCount ∧
      (takeDecision v w s).health.candidate = s.health.candidate ∧
      (takeDecision v w s).zone.settings = s.zone.settings ∧ (takeDecision v w s).meas = s.meas ∧
      (takeDecision v w s).rst = s.rst := by
  by_cases hd : s.decides = true
  · obtain ⟨-, hview, hplant, hcount, hcand, -, -, -, hset, hmeas, hrst⟩ := takeDecision_bad_frame w hd hv
    exact ⟨hview, hplant, hcount, hcand, hset, hmeas, hrst⟩
  · unfold takeDecision
    rw [if_neg hd]
    exact ⟨rfl, rfl, rfl, rfl, rfl, rfl, rfl⟩

/-- Settles O9: a decision on a cut window leaves the line block that the cut has left. -/
theorem syncCutsTheWindowShort : Obligations.SyncCutsTheWindowShort := by
  intro s data frame hq hd hr us wire
  refine ⟨_, exec_syncRecognised_of_inRound data frame ((receives_iff s).2 hq) hd hr, ?_⟩
  rw [syncUs, cutShort_eq]
  generalize hs1 : elapseTo s.timers.run 10000 s = s1
  have hus : us = s1.timers.round.us := by rw [← hs1]
  have himage : s.asm.image = s1.asm.image := by rw [← hs1]; rfl
  have hline := takeDecision_line .incomplete (viewOf (s1.cutData data)) (s1.cutRead data)
  obtain ⟨hview, hplant, hcount, hcand, hset, hmeas, hrst⟩ :=
    takeDecision_bad_keeps (v := .incomplete) (viewOf (s1.cutData data)) (s1.cutRead data) rfl
  have hrx := congrArg LineBlock.rx hline
  have hout := congrArg LineBlock.outcomes hline
  have hkept : (s1.cutRead data).health.view = s.health.view ∧ (s1.cutRead data).health.plant = s.health.plant ∧
      (s1.cutRead data).health.clashCount = s.health.clashCount ∧
      (s1.cutRead data).zone.settings = s.zone.settings ∧ (s1.cutRead data).meas = s.meas ∧
      (s1.cutRead data).rst = s.rst := by
    rw [← hs1]; exact ⟨rfl, rfl, rfl, rfl, rfl, rfl⟩
  obtain ⟨kview, kplant, kcount, kset, kmeas, krst⟩ := hkept
  refine ⟨hrx, hcand, hview.trans kview, hplant.trans kplant, hcount.trans kcount, fun im him => ?_, fun him => ?_,
    hset.trans kset, hmeas.trans kmeas, hrst.trans krst⟩
  · rw [show (takeDecision _ _ _).line.outcomes = _ from hout, cutRead_outcomes (himage ▸ him), hus]
    exact outcomesOf_cut im _ data
  · exact hout.trans (cutRead_outcomes_none (himage ▸ him))

/-- Settles O17: the line block that a complete window leaves is not touched by the decision, and the bits of a view read
back as that view. -/
theorem windowIsDrivenFieldByField : Obligations.WindowIsDrivenFieldByField := by
  intro s w im hr him a wire
  refine ⟨_, exec_roundEnd_of_inRound w hr, ?_⟩
  rw [windowEnd_eq]
  have hline := takeDecision_line
    (verdictOf ((elapseTo s.timers.round (Config.bitsUs Config.roundBits) s).line.framing || framingIn w) w.data)
    (viewOf w.data) ((elapseTo s.timers.round (Config.bitsUs Config.roundBits) s).closed w)
  have hout := (congrArg LineBlock.outcomes hline).trans (closed_outcomes him)
  have hdriven := (congrArg LineBlock.driven hline).trans (closed_driven him)
  rw [show (takeDecision _ _ _).line.driven = _ from hdriven, show (takeDecision _ _ _).line.outcomes = _ from hout]
  refine ⟨?_, ?_, fun b hb1 hb2 ha1 ha2 => ⟨?_, ?_⟩⟩
  · simp [outcomesOf, outcomeOf_eq_map, wire]
  · obtain ⟨idx, pres, callc, callh, calld, peakc, peakh, plant, state, share, slow, directive, reply, flags, inv⟩ := im
    cases peakc <;> cases peakh <;> cases directive <;> rfl
  · exact slotByte_placeSlot ⟨ha1, ha2⟩ ⟨hb1, hb2⟩ _
  · refine (slotByte_placeSlot ⟨ha1, ha2⟩ ⟨hb1, hb2⟩ _).trans ?_
    unfold Image.slowDriven
    show (if b = a then (match arbitrationOf im.idx wire.idx with | .won => im.slow | .lost => 0) else 0) = _
    cases arbitrationOf im.idx wire.idx <;> by_cases hb : b = a <;> simp [hb]

end Sys2Proof.Machine

/-! O14, O16, O18, O26. Decisions on rounds: the counts, the entries to HOLDOVER and ISOLATED, and the transmit queue
(R22, R37 to R55, R174). -/

namespace Sys2Proof.Machine

/-! ### The entry to ISOLATED (R55) -/

/-- The station `v` comes to a decision with what `u` holds outside the line, the image and the acceptance and directive
blocks: all of the station that the entry to ISOLATED depends on. -/
structure DecidesFrom (u v : State) : Prop where
  rst : v.rst = u.rst
  meas : v.meas = u.meas
  coll : v.coll = u.coll
  zone : v.zone = u.zone
  damper : v.damper = u.damper
  handler : v.handler = u.handler
  outdoor : v.outdoor = u.outdoor
  out : v.out = u.out
  tracker : v.dir.tracker = u.dir.tracker
  tests : v.dir.tests = u.dir.tests
  motorRest : v.timers.motorRest = u.timers.motorRest
  stall : v.timers.stall = u.timers.stall
  heater : v.timers.heater = u.timers.heater
  fan : v.timers.fan = u.timers.fan

theorem DecidesFrom.decideRound {u v : State} (h : DecidesFrom u v) (vd : Verdict) (w : View) :
    DecidesFrom u (decideRound vd w v) where
  rst := h.rst
  meas := h.meas
  coll := h.coll
  zone := h.zone
  damper := h.damper
  handler := h.handler
  outdoor := h.outdoor
  out := h.out
  tracker := (decideRound_tracker vd w v).trans h.tracker
  tests := (decideRound_tests vd w v).trans h.tests
  motorRest := h.motorRest
  stall := h.stall
  heater := h.heater
  fan := h.fan

/-- The station on its way into ISOLATED, before its role's safe state (R55). -/
def State.leaving (clash : Bool) (s : State) : State :=
  { s with
    line := { s.line with permission := false }
    asm := { s.asm with image := none }
    health := s.health.isolate clash
    coll := ⟨.rest, .rest⟩
    zone := { s.zone with served := false }
    dir := s.dir.isolate
    timers := { s.timers with mark := .stopped, isolation := if clash then .stopped else .started } }

theorem enterIsolated_eq (clash : Bool) (s : State) : enterIsolated clash s = roleSafe (s.leaving clash) := rfl

/-- The zone's machine in its safe state before its target is set (R55, R115, R117). -/
def Motor.released (m : Motor) : Motor :=
  { m with d := { m.d with request := 0, grant := 0, percent := 100, pending := 400 } }

theorem zoneSafe_eq (s : State) : zoneSafe s = s.withMotor (s.motor.released.setTarget 400) := rfl

/-- What a zone's part of an entry to ISOLATED does, whole, told from the station `u` at the moment of the decision (R119,
R121). -/
theorem zoneSafe_atRest {u v : State} (hd : v.damper = u.damper) (ho : v.out = u.out)
    (hr : v.timers.motorRest = u.timers.motorRest ∧ v.timers.stall = u.timers.stall) : ZoneAtRest u (zoneSafe v) := by
  rw [zoneSafe_eq]
  obtain ⟨hframe, -⟩ := setTarget_frame 400 v.motor.released
  refine ⟨⟨congrArg Damper.request hframe, congrArg Damper.grant hframe, congrArg Damper.percent hframe,
    congrArg Damper.pending hframe, congrArg Damper.target hframe, ?_, ?_⟩, fun ht => ?_, fun ht hs => ?_⟩
  · have hpos : v.damper.position = u.damper.position := congrArg Damper.position hd
    exact (congrArg Damper.position hframe).trans hpos
  · rw [← ho]; rfl
  · have heq : v.motor.released.setTarget 400 = v.motor.released := setTarget_of_eq (by
      show v.damper.target = 400
      rw [hd, ht])
    rw [heq, ← hd, ← ho]
    exact ⟨rfl, rfl⟩
  · refine damperCompared_of_setTarget (m := v.motor.released) hs (Ne.symm ht) ?_ (congrArg Output.bridge ho) hr rfl
    rw [← hd]
    rfl

theorem HandlerAtRest.of_eq {u v t : State} (h : HandlerAtRest v t) (hh : v.handler = u.handler) (ho : v.out = u.out)
    (ht : v.timers.heater = u.timers.heater) : HandlerAtRest u t := by
  unfold HandlerAtRest at h ⊢
  rwa [hh, ho, ht] at h

theorem OutdoorAtRest.of_eq {u v t : State} (h : OutdoorAtRest v t) (hh : v.outdoor = u.outdoor) (ho : v.out = u.out)
    (ht : v.timers.fan = u.timers.fan) : OutdoorAtRest u t := by
  unfold OutdoorAtRest at h ⊢
  rwa [hh, ho, ht] at h

theorem roleSafe_of_zone {s : State} (h : s.role = .zone) : roleSafe s = zoneSafe s := by unfold roleSafe; rw [h]
theorem roleSafe_of_handler {s : State} (h : s.role = .handler) : roleSafe s = handlerSafe s := by unfold roleSafe; rw [h]
theorem roleSafe_of_outdoor {s : State} (h : s.role = .outdoor) : roleSafe s = outdoorSafe s := by unfold roleSafe; rw [h]
theorem roleSafe_of_absent {s : State} (h : s.role = .absent) : roleSafe s = s := by unfold roleSafe; rw [h]

/-- Every entry to ISOLATED does all of R55, whatever its cause. -/
theorem enterIsolated_enters (clash : Bool) {u v : State} (h : DecidesFrom u v) :
    EntersIsolated u (enterIsolated clash v) := by
  have hrole : v.role = u.role := congrArg (fun r : ResetBlock => roleOf r.address) h.rst
  have hmark := enterIsolated_mark clash v
  refine ⟨⟨?_, ?_, ?_, ?_, ?_, ?_⟩, ?_, ⟨?_, ?_, ?_, ?_⟩, ?_, ?_⟩
  · rw [enterIsolated_health]; rfl
  · rw [enterIsolated_health]; rfl
  · rw [enterIsolated_health]; rfl
  · rw [enterIsolated_line]
  · rw [enterIsolated_asm]
  · show (enterIsolated clash v).timers.mark.running = false
    rw [hmark]; rfl
  · rw [enterIsolated_coll]; rfl
  · rw [enterIsolated_dir]; rfl
  · rw [enterIsolated_dir]; rfl
  · rw [enterIsolated_dir]; rfl
  · rw [enterIsolated_dir]; exact h.tracker
  · rw [enterIsolated_zone, h.zone]
  · rw [enterIsolated_meas, enterIsolated_rst, h.meas, h.rst]
    suffices hs : (u.role = .zone → ZoneAtRest u (enterIsolated clash v)) ∧
        (u.role ≠ .zone → (enterIsolated clash v).damper = u.damper) ∧
        (u.role = .handler → HandlerAtRest u (enterIsolated clash v)) ∧
        (u.role ≠ .handler → (enterIsolated clash v).handler = u.handler) ∧
        (u.role = .outdoor → OutdoorAtRest u (enterIsolated clash v)) ∧
        (u.role ≠ .outdoor → (enterIsolated clash v).outdoor = u.outdoor) by
      obtain ⟨h1, h2, h3, h4, h5, h6⟩ := hs
      exact ⟨h1, h2, h3, h4, h5, h6, rfl, rfl⟩
    rw [enterIsolated_eq]
    cases hr : u.role with
    | zone =>
      rw [roleSafe_of_zone (s := v.leaving clash) (hrole.trans hr)]
      exact ⟨fun _ => zoneSafe_atRest h.damper h.out ⟨h.motorRest, h.stall⟩, fun hn => absurd rfl hn, nofun, fun _ => h.handler, nofun,
        fun _ => h.outdoor⟩
    | handler =>
      rw [roleSafe_of_handler (s := v.leaving clash) (hrole.trans hr)]
      exact ⟨nofun, fun _ => h.damper,
        fun _ => (handlerSafe_atRest (v.leaving clash)).of_eq h.handler h.out h.heater,
        fun hn => absurd rfl hn, nofun, fun _ => h.outdoor⟩
    | outdoor =>
      rw [roleSafe_of_outdoor (s := v.leaving clash) (hrole.trans hr)]
      exact ⟨nofun, fun _ => (outdoorSafe_damper _).trans h.damper, nofun,
        fun _ => (outdoorSafe_handler _).trans h.handler,
        fun _ => (outdoorSafe_atRest (v.leaving clash)).of_eq h.outdoor h.out h.fan,
        fun hn => absurd rfl hn⟩
    | absent =>
      rw [roleSafe_of_absent (s := v.leaving clash) (hrole.trans hr)]
      exact ⟨nofun, fun _ => h.damper, nofun, fun _ => h.handler, nofun, fun _ => h.outdoor⟩

/-! ### The commands that bring a bad decision (R37) -/

/-- The decision that a command brings (R8, R10, R13). -/
def State.verdictAt (c : Instr) (s : State) : Verdict :=
  match c with
  | .roundEnd w => verdictOf (s.line.framing || framingIn w) w.data
  | .syncRecognised _ _ => .incomplete
  | _ => .missing

/-- The fields that a command's decision reads (R8, R10, R13). -/
def State.wireAt (c : Instr) (s : State) : View :=
  match c with
  | .roundEnd w => viewOf w.data
  | .syncRecognised data _ => viewOf ((atDecision c s).cutData data)
  | _ => .zero

/-- The station that comes to a command's decision (R8, R10, R13). -/
def State.readAt (c : Instr) (s : State) : State :=
  match c with
  | .roundEnd w => (atDecision c s).closed w
  | .syncRecognised data _ => (atDecision c s).cutRead data
  | _ =>
    { atDecision c s with
      line := { (atDecision c s).line with pace := .ahead }
      timers := { (atDecision c s).timers with round := .started } }

/-- Each command that brings a bad decision takes it on the station that it has read. -/
theorem exec_bad {c : Instr} {s : State} (h : EndsBad c s) :
    exec c s = .next (takeDecision (s.verdictAt c) (s.wireAt c) (s.readAt c)) := by
  cases c with
  | roundEnd w => exact exec_roundEnd_of_inRound w h.1
  | syncRecognised data frame =>
    obtain ⟨hq, hd, hr⟩ := h
    exact exec_syncRecognised_of_inRound data frame hq hd hr
  | missingRound => exact exec_missingRound_of_mayDrive h
  | _ => exact h.elim

/-- A window that ends badly, by the two causes of R37. -/
theorem verdictAt_roundEnd {s : State} {w : Window} (h : EndsBad (.roundEnd w) s) :
    (s.verdictAt (.roundEnd w)).isAccepted = false ∧ s.verdictAt (.roundEnd w) ≠ .missing ∧
      (s.verdictAt (.roundEnd w) = .mismatch ↔ s.line.framing = false ∧ w.guards = 0 ∧ w.spacers = 0) := by
  obtain ⟨-, hbad⟩ := h
  have hf : (s.line.framing || framingIn w) = true ↔ s.line.framing = true ∨ w.guards ≠ 0 ∨ w.spacers ≠ 0 := by
    simp [framingIn]
  have hcause : (s.line.framing || framingIn w) = true ∨ computedCheck w.data ≠ (viewOf w.data).check := by
    rw [hf]
    tauto
  obtain ⟨hv, hm⟩ := verdictOf_bad hcause
  refine ⟨hv, hm, ?_⟩
  show verdictOf (s.line.framing || framingIn w) w.data = .mismatch ↔ _
  unfold verdictOf
  by_cases hframe : (s.line.framing || framingIn w) = true
  · rw [if_pos hframe]
    refine iff_of_false nofun fun ⟨h1, h2, h3⟩ => ?_
    obtain h | h | h := hf.1 hframe
    · rw [h1] at h; cases h
    · exact h h2
    · exact h h3
  · have hclear : s.line.framing = false ∧ w.guards = 0 ∧ w.spacers = 0 := by
      rw [hf] at hframe
      simpa [not_or] using hframe
    rw [if_neg hframe, if_neg (hcause.resolve_left hframe)]
    exact iff_of_true rfl hclear

/-- A command that brings a bad decision brings a missing round or a window that is not accepted (R37). -/
theorem verdictAt_bad {c : Instr} {s : State} (h : EndsBad c s) :
    (s.verdictAt c).isAccepted = false ∧ (s.verdictAt c = .missing ↔ c = .missingRound) := by
  cases c with
  | roundEnd w =>
    obtain ⟨hv, hm, -⟩ := verdictAt_roundEnd h
    exact ⟨hv, iff_of_false hm nofun⟩
  | syncRecognised data frame => exact ⟨rfl, iff_of_false nofun nofun⟩
  | missingRound => exact ⟨rfl, iff_of_true rfl rfl⟩
  | _ => exact h.elim

/-- What the station that comes to a bad decision holds of the one before the command (R8, R10, R13). -/
theorem readAt_bad {c : Instr} {s : State} (h : EndsBad c s) :
    DecidesFrom (atDecision c s) (s.readAt c) ∧ (s.readAt c).asm = s.asm ∧ (s.readAt c).dir = s.dir ∧
      (s.readAt c).line.permission = s.line.permission ∧
      { (s.readAt c).health with
        check := s.health.check, clashMark := s.health.clashMark, candidate := s.health.candidate } = s.health := by
  cases c with
  | roundEnd w =>
    exact ⟨⟨rfl, rfl, rfl, rfl, rfl, rfl, rfl, rfl, rfl, rfl, rfl, rfl, rfl, rfl⟩, rfl, rfl, LineBlock.read_permission .., rfl⟩
  | syncRecognised data frame =>
    exact ⟨⟨rfl, rfl, rfl, rfl, rfl, rfl, rfl, rfl, rfl, rfl, rfl, rfl, rfl, rfl⟩, rfl, rfl, LineBlock.read_permission .., rfl⟩
  | missingRound => exact ⟨⟨rfl, rfl, rfl, rfl, rfl, rfl, rfl, rfl, rfl, rfl, rfl, rfl, rfl, rfl⟩, rfl, rfl, rfl, rfl⟩
  | _ => exact h.elim

/-- What `atDecision` keeps: time alone passes (R13). -/
theorem atDecision_keeps (c : Instr) (s : State) :
    (atDecision c s).rst = s.rst ∧ (atDecision c s).meas = s.meas ∧ (atDecision c s).coll = s.coll ∧
      (atDecision c s).zone = s.zone ∧ (atDecision c s).damper = s.damper ∧ (atDecision c s).handler = s.handler ∧
      (atDecision c s).outdoor = s.outdoor ∧ (atDecision c s).out = s.out ∧ (atDecision c s).dir = s.dir := by
  cases c <;> exact ⟨rfl, rfl, rfl, rfl, rfl, rfl, rfl, rfl, rfl⟩

end Sys2Proof.Machine

/-! O14, O16. Bad rounds, and the rounds that a station in LISTEN counts (R22, R37 to R55). -/

namespace Sys2Proof.Machine

/-! ### What a bad decision leaves (R40, R41) -/

theorem roleSafe_clocks (s : State) :
    (roleSafe s).timers.round = s.timers.round ∧ (roleSafe s).timers.isolation = s.timers.isolation := by
  cases hr : s.role with
  | zone =>
    rw [roleSafe_of_zone hr, zoneSafe_eq]
    obtain ⟨-, ht⟩ := setTarget_frame 400 s.motor.released
    exact ⟨(congrArg Timers.round ht :), (congrArg Timers.isolation ht :)⟩
  | handler => rw [roleSafe_of_handler hr]; exact ⟨rfl, rfl⟩
  | outdoor =>
    rw [roleSafe_of_outdoor hr]
    have ht := (outdoorSafe_moved s).timers
    exact ⟨(congrArg Timers.round ht :), (congrArg Timers.isolation ht :)⟩
  | absent => rw [roleSafe_of_absent hr]; exact ⟨rfl, rfl⟩

theorem enterIsolated_clocks (clash : Bool) (s : State) :
    (enterIsolated clash s).timers.round = s.timers.round ∧
      (enterIsolated clash s).timers.isolation = if clash then ⟨false, 0⟩ else ⟨true, 0⟩ := by
  obtain ⟨h1, h2⟩ := roleSafe_clocks (s.leaving clash)
  refine ⟨h1, h2.trans ?_⟩
  cases clash <;> rfl

/-- A bad decision sets DISAGREE exactly at a check that disagrees, unless it isolates the station (R41, R55); the round
timer runs on. -/
theorem takeDecision_bad_disagree {v : Verdict} (w : View) {s : State} (hd : s.decides = true)
    (hv : v.isAccepted = false) :
    (takeDecision v w s).health.disagree = decide ((takeDecision v w s).health.link ≠ .isolated ∧ v = .mismatch) ∧
      (takeDecision v w s).timers.round = s.timers.round := by
  obtain ⟨-, ht⟩ | ⟨-, ht⟩ | ⟨-, -, ht⟩ | ⟨-, -, ht⟩ := takeDecision_bad w hd hv <;> rw [ht]
  · exact ⟨by simp [State.counted, decideRound, Health.decided], rfl⟩
  · refine ⟨?_, rfl⟩
    have hl : (if 3 ≤ s.health.badRun then LinkState.holdover else .joined) ≠ .isolated := by split <;> nofun
    exact (decide_eq_decide.2 (and_iff_right hl)).symm
  · exact ⟨by simp [State.counted, decideRound, Health.decided], rfl⟩
  · refine ⟨?_, (enterIsolated_clocks _ _).1⟩
    rw [enterIsolated_health]
    exact (decide_eq_false fun h => h.1 rfl).symm

/-- The round index after a bad decision (R22). -/
theorem decided_index_bad {v : Verdict} {x : Assembler} {p : Bool} (i : Nibble) (hv : v.isAccepted = false) :
    (v = .missing → (x.decided v p i).index = x.index) ∧
      (v ≠ .missing →
        (x.decided v p i).index =
          (match x.image with
          | some im => if p = true then im.idx else x.index
          | none => x.index)) := by
  unfold Assembler.decided
  cases x.image with
  | none => exact ⟨fun _ => rfl, fun _ => rfl⟩
  | some im =>
    refine ⟨fun hm => ?_, fun hm => ?_⟩
    · simp [hm]
    · cases p <;> simp [hm, hv]

/-- Settles O16: by the count of bad rounds that the decision finds. -/
theorem badRunsLeaveTheHouse : Obligations.BadRunsLeaveTheHouse := by
  intro c s hm hb
  refine ⟨_, exec_bad hb, ?_⟩
  obtain ⟨hv, hmissing⟩ := verdictAt_bad hb
  obtain ⟨hfrom, hasm, hdir, hperm, hhealth⟩ := readAt_bad hb
  obtain ⟨krst, kmeas, kcoll, kzone, kdamper, khandler, koutdoor, kout, kdir⟩ := atDecision_keeps c s
  have hlink : (s.readAt c).health.link = s.health.link := (congrArg Health.link hhealth :)
  have hrun : (s.readAt c).health.badRun = s.health.badRun := (congrArg Health.badRun hhealth :)
  have hmay : (s.readAt c).mayDrive = true := (mayDrive_of_link hlink).trans hm
  have hdec : (s.readAt c).decides = true := by
    rw [decides_iff]
    exact .inr (of_decide_eq_true hmay)
  obtain ⟨hline, hview, hplant, hcount, -, hlast, hfar, hindex, hset, hmeas, hrst⟩ :=
    takeDecision_bad_frame (s.wireAt c) hdec hv
  obtain ⟨hdis, hround⟩ := takeDecision_bad_disagree (s.wireAt c) hdec hv
  obtain ⟨hsame, hsent⟩ := decided_index_bad (x := (s.readAt c).asm) (p := (s.readAt c).line.permission)
    (s.wireAt c).idx hv
  refine ⟨hview.trans (congrArg Health.view hhealth :), hplant.trans (congrArg Health.plant hhealth :),
    hcount.trans (congrArg Health.clashCount hhealth :), hlast, hfar.trans (congrArg Health.farEnd hhealth :),
    hmeas.trans (hfrom.meas.trans kmeas), hrst.trans (hfrom.rst.trans krst),
    hset.trans (congrArg Zone.settings (hfrom.zone.trans kzone)), ?_, ?_, ?_, ?_, ?_⟩
  · rintro rfl
    have hvm : s.verdictAt .missingRound = .missing := rfl
    refine ⟨hround, (congrArg LineBlock.rx hline :), hindex.trans ((hsame hvm).trans (congrArg Assembler.index hasm)), ?_⟩
    rw [hdis, hvm]
    simp
  · intro hc
    have h := hindex.trans (hsent fun h => hc (hmissing.1 h))
    rw [hasm, hperm] at h
    exact h
  · rintro w rfl
    rw [hdis]
    exact decide_eq_decide.2 (and_congr_right' (verdictAt_roundEnd hb).2.2)
  · rintro data frame rfl
    rw [hdis]
    exact decide_eq_false fun h => nomatch h.2
  clear hset hmeas hrst hview hplant hcount hlast hfar hindex hline hdis hround
  have hkept : (decideRound (s.verdictAt c) (s.wireAt c) (s.readAt c)).dir.tracker = s.dir.tracker ∧
      (decideRound (s.verdictAt c) (s.wireAt c) (s.readAt c)).dir.tests = s.dir.tests := by
    rw [decideRound_tracker, decideRound_tests, hdir]
    exact ⟨rfl, rfl⟩
  obtain ⟨htracker, htests⟩ := hkept
  have hcoll := hfrom.coll.trans kcoll
  have hzone := hfrom.zone.trans kzone
  have hdamper := hfrom.damper.trans kdamper
  have hhandler := hfrom.handler.trans khandler
  have houtdoor := hfrom.outdoor.trans koutdoor
  have hout := hfrom.out.trans kout
  obtain ⟨hl, -⟩ | ⟨hl, ht⟩ | ⟨hl, hn, ht⟩ | ⟨hl, hn, ht⟩ := takeDecision_bad (s.wireAt c) hdec hv
  · rw [State.mayDrive, hl] at hmay; cases hmay
  all_goals rw [hlink] at hl; rw [ht]; rw [hrun] at *; rw [hl]
  · refine ⟨fun h => ?_, fun h => ?_, fun _ => ⟨rfl, hcoll, htracker, htests, hdamper, hhandler, houtdoor, hout, hzone⟩,
      nofun, nofun⟩
    · exact if_neg (Nat.not_le.2 h.2)
    · exact if_pos h.2
  · exact ⟨nofun, nofun, fun _ => ⟨rfl, hcoll, htracker, htests, hdamper, hhandler, houtdoor, hout, hzone⟩, fun _ => rfl,
      fun h => absurd h.2 (Nat.not_le.2 hn)⟩
  · refine ⟨nofun, nofun, fun h => ?_, fun h => absurd hn (Nat.not_le.2 h.2), fun _ => ⟨?_, ?_, ?_⟩⟩
    · exact h.elim nofun fun h => absurd hn (Nat.not_le.2 h)
    · exact enterIsolated_enters false (hfrom.decideRound _ _)
    · exact (enterIsolated_clocks _ _).2
    · rw [enterIsolated_health]
      have hclash : (s.readAt c).health.addressClash = s.health.addressClash := (congrArg Health.addressClash hhealth :)
      exact (Bool.or_false _).trans hclash

end Sys2Proof.Machine

/-! O14, O18, O26. Accepted rounds: the joining count, the clash count and the transmit queue (R22, R37 to R49, R174). -/

namespace Sys2Proof.Machine

/-! ### An accepted window (R36, R37) -/

/-- A window that ends accepted finds no framing error (R36, R37). -/
theorem EndsAccepted.closed {w : Window} {s : State} (h : EndsAccepted w s) :
    (elapseTo s.timers.round (Config.bitsUs Config.roundBits) s).closed w = s.windowRead w ∧
      verdictOf (s.line.framing || framingIn w) w.data = .accepted := by
  obtain ⟨-, hf, hg, hp, hk⟩ := h
  have hw : (s.line.framing || framingIn w) = false := by simp [framingIn, hf, hg, hp]
  refine ⟨?_, ?_⟩
  · unfold State.closed State.windowRead
    rw [show (elapseTo s.timers.round (Config.bitsUs Config.roundBits) s).line.framing = s.line.framing from rfl, hw]
    rfl
  · rw [hw, verdictOf, if_neg Bool.false_ne_true, if_pos hk]

theorem exec_roundEnd_accepted {w : Window} {s : State} (h : EndsAccepted w s) :
    exec (.roundEnd w) s = .next (takeDecision .accepted (viewOf w.data) (s.windowRead w)) := by
  obtain ⟨hc, hv⟩ := h.closed
  rw [exec_roundEnd_of_inRound w h.1, windowEnd_eq, hc,
    show (elapseTo s.timers.round (Config.bitsUs Config.roundBits) s).line.framing = s.line.framing from rfl, hv]

/-- A window of a round being read ends accepted or badly (R37). -/
theorem endsBad_of_not_accepted {w : Window} {s : State} (hr : s.line.rx.inRound = true) (h : ¬ EndsAccepted w s) :
    EndsBad (.roundEnd w) s := by
  refine ⟨hr, ?_⟩
  by_contra hn
  simp only [not_or, not_not, Bool.not_eq_true] at hn
  exact h ⟨hr, hn⟩

theorem windowRead_permission (w : Window) (s : State) : (s.windowRead w).line.permission = s.line.permission :=
  LineBlock.read_permission ..

/-- The clash mark at the end of a window (R47). -/
theorem windowRead_clashMark (w : Window) (s : State) :
    (s.windowRead w).health.clashMark = true ↔
      s.health.clashMark = true ∨ ∃ im, s.asm.image = some im ∧ ClashAt w s im := by
  show clashMarkAfter s.rst.address s.asm.image 384 w.data s.health.clashMark = true ↔ _
  cases him : s.asm.image with
  | none => simp [clashMarkAfter]
  | some im =>
    have hd : viewOf (keepFirst 384 (bitsOf (im.driven s.rst.address w.data))) = im.driven s.rst.address w.data := by
      rw [keepFirst_all, viewOf_bitsOf]
    rw [clashMarkAfter, hd, Bool.or_eq_true, clashIn_iff]
    refine or_congr_right ⟨fun h => ⟨im, rfl, h⟩, ?_⟩
    rintro ⟨im', he, h⟩
    cases he
    exact h

/-- The clash count after an accepted decision (R47). -/
theorem decideRound_clashCount (w : View) (s : State) :
    (decideRound .accepted w s).health.clashCount =
      if s.line.permission = true then (if s.health.clashMark = true then min 2 (s.health.clashCount + 1) else 0)
      else s.health.clashCount := by
  cases hp : s.line.permission <;> simp [decideRound, Health.decided, Verdict.isAccepted, hp]

/-- An accepted decision isolates at a second clash in a row (R48). -/
theorem clashes_accepted_iff (w : View) (s : State) :
    clashes .accepted (decideRound .accepted w s) = true ↔
      s.line.permission = true ∧ s.health.clashMark = true ∧ 1 ≤ s.health.clashCount := by
  have hp : (decideRound .accepted w s).line.permission = s.line.permission := rfl
  unfold clashes
  rw [hp, decideRound_clashCount]
  cases s.line.permission with
  | false => simp
  | true =>
    cases s.health.clashMark with
    | false => simp
    | true =>
      simp only [Verdict.isAccepted, Bool.true_and, if_true, decide_eq_true_eq, true_and]
      omega

/-! ### Handing on (R39) -/

/-- What the directive unit leaves of the acceptance block: all but the error counts (R44, R180). -/
theorem directiveRound_health (s : State) :
    { (directiveRound s).health with nearEnd := s.health.nearEnd, farEnd := s.health.farEnd } = s.health := by
  obtain ⟨-, h⟩ | ⟨d, -, h | ⟨-, -, -, h⟩⟩ := directiveRound_cases s
  · rw [h]
  · rw [h, oweReply_health]
  · obtain ⟨n, f, he, -⟩ := execute_health d { s with dir := { s.dir with tracker := s.dir.tracker.update (some d) } }
    rw [h, oweReply_health, he]

theorem handOn_health (s : State) :
    { (handOn s).health with nearEnd := s.health.nearEnd, farEnd := s.health.farEnd } = s.health := by
  unfold handOn
  rw [roleRound_health]
  exact directiveRound_health _

theorem handOn_coll (s : State) : (handOn s).coll = s.coll.round s.health.view s.health.plant := by
  unfold handOn
  rw [roleRound_coll, directiveRound_coll]

theorem adopt_eq (c : Collective) (v : View) :
    adopt c v =
      (match modeOfCode (v.state.toNat / 512) with
      | some m => ⟨m, v.state.toNat % 512⟩
      | none => c) := by
  unfold adopt unpackState
  cases modeOfCode (v.state.toNat / 512) <;> rfl

/-! ### LISTEN (R49) -/

theorem decided_of_no_permission (v : Verdict) (out : Option Arbitration) (u : DirectiveUnit) :
    u.decided v false out = u := by
  simp [DirectiveUnit.decided]

theorem asm_decided_of_no_permission (v : Verdict) (i : Nibble) (x : Assembler) : x.decided v false i = x := by
  unfold Assembler.decided
  cases x.image <;> simp

/-- Settles O14: a bad decision, an accepted one before the eighth, and the eighth. -/
theorem eighthAcceptedRoundJoins : Obligations.EighthAcceptedRoundJoins := by
  intro s hl hp
  refine ⟨fun c hb => ⟨_, exec_bad hb, ?_⟩, fun w ha => ⟨_, exec_roundEnd_accepted ha, ?_⟩⟩
  · obtain ⟨hv, -⟩ := verdictAt_bad hb
    obtain ⟨hfrom, hasm, hdir, hperm, hhealth⟩ := readAt_bad hb
    obtain ⟨-, -, kcoll, -⟩ := atDecision_keeps c s
    have hlink : (s.readAt c).health.link = .listen := (congrArg Health.link hhealth :).trans hl
    have hdec : (s.readAt c).decides = true := (decides_iff _).2 (.inl hlink)
    obtain ⟨hdis, -⟩ := takeDecision_bad_disagree (s.wireAt c) hdec hv
    obtain ⟨hline, hview, hplant, -, -, hlast, -⟩ := takeDecision_bad_frame (s.wireAt c) hdec hv
    have ht : takeDecision (s.verdictAt c) (s.wireAt c) (s.readAt c) =
        (decideRound (s.verdictAt c) (s.wireAt c) (s.readAt c)).counted .listen (s.readAt c).health.badRun 0 := by
      obtain ⟨-, ht⟩ | ⟨h, -⟩ | ⟨h, -⟩ | ⟨h, -⟩ := takeDecision_bad (s.wireAt c) hdec hv
      · exact ht
      all_goals rw [hlink] at h; cases h
    refine ⟨by rw [ht]; rfl, by rw [ht]; rfl, hlast, hview.trans (congrArg Health.view hhealth :),
      hplant.trans (congrArg Health.plant hhealth :), ?_, ?_, ?_, ?_, ?_⟩
    · rw [ht]; exact hfrom.coll.trans kcoll
    · rw [ht, counted_asm]
      show (s.readAt c).asm.decided _ (s.readAt c).line.permission _ = _
      rw [hperm, hp, asm_decided_of_no_permission, hasm]
    · rw [ht, counted_dir]
      show (s.readAt c).dir.decided _ (s.readAt c).line.permission _ = _
      rw [hperm, hp, decided_of_no_permission, hdir]
    · rintro w rfl
      have hn : (takeDecision (s.verdictAt (.roundEnd w)) (s.wireAt (.roundEnd w))
          (s.readAt (.roundEnd w))).health.link ≠ .isolated := by rw [ht]; nofun
      rw [hdis]
      exact decide_eq_decide.2 ((and_iff_right hn).trans (verdictAt_roundEnd hb).2.2)
    · rintro data frame rfl
      refine ⟨(congrArg LineBlock.rx hline :), ?_⟩
      rw [hdis]
      exact decide_eq_false fun h => nomatch h.2
  · have hc : clashes .accepted (decideRound .accepted (viewOf w.data) (s.windowRead w)) = false := by
      refine Bool.of_not_eq_true fun h => ?_
      obtain ⟨h, -⟩ := (clashes_accepted_iff _ _).1 h
      rw [windowRead_permission, hp] at h
      cases h
    have hhealth : (decideRound .accepted (viewOf w.data) (s.windowRead w)).health.view = viewOf w.data ∧
        (decideRound .accepted (viewOf w.data) (s.windowRead w)).health.plant =
          s.health.plant.update (viewOf w.data).plant := ⟨rfl, rfl⟩
    by_cases hj : s.health.joining < 7
    · rw [takeDecision_listen_counts (s := s.windowRead w) hl hj hc]
      refine ⟨rfl, rfl, rfl, rfl, fun _ => ⟨rfl, rfl, rfl, ?_, ?_⟩, fun h => absurd hj (Nat.not_lt.2 h)⟩
      · show (s.windowRead w).dir.decided _ (s.windowRead w).line.permission _ = _
        rw [windowRead_permission, hp, decided_of_no_permission]; rfl
      · show (s.windowRead w).asm.decided _ (s.windowRead w).line.permission _ = _
        rw [windowRead_permission, hp, asm_decided_of_no_permission]; rfl
    · rw [takeDecision_listen_joins (s := s.windowRead w) hl (Nat.not_lt.1 hj) hc]
      have hh := handOn_health ((decideRound .accepted (viewOf w.data) (s.windowRead w)).joinedAt 0 (viewOf w.data).idx)
      have hview := (congrArg Health.view hh :)
      have hplant := (congrArg Health.plant hh :)
      refine ⟨(congrArg Health.disagree hh :), (congrArg Health.lastAccepted hh :), hview, hplant,
        fun h => absurd h hj, fun _ => ⟨(congrArg Health.joining hh :), (congrArg Health.link hh :),
          (congrArg Health.badRun hh :), ?_, ?_, ?_⟩⟩
      · rw [handOn_asm]; rfl
      · rw [handOn_coll]
        exact adopt_eq _ _
      · rw [hview, hplant, handOn_coll]
        rfl

/-! ### Clashes (R47, R48) -/

/-- Settles O18: the count of clashes that the decision finds. -/
theorem secondClashIsolates : Obligations.SecondClashIsolates := by
  intro s w im hm ha hp him hmark
  refine ⟨_, exec_roundEnd_accepted ha, ?_⟩
  have hclash : (s.windowRead w).health.clashMark = true ↔ ClashAt w s im := by
    rw [windowRead_clashMark, hmark, him]
    simp
  have hperm : (s.windowRead w).line.permission = true := (windowRead_permission w s).trans hp
  have hcount : (decideRound .accepted (viewOf w.data) (s.windowRead w)).health.clashCount =
      if (s.windowRead w).health.clashMark = true then min 2 (s.health.clashCount + 1) else 0 := by
    rw [decideRound_clashCount, if_pos hperm]; rfl
  have hiff := clashes_accepted_iff (viewOf w.data) (s.windowRead w)
  have hjoins (h : ¬ (ClashAt w s im ∧ 1 ≤ s.health.clashCount)) :
      (takeDecision .accepted (viewOf w.data) (s.windowRead w)).health.link = .joined ∧
        (takeDecision .accepted (viewOf w.data) (s.windowRead w)).health.clashCount =
          (decideRound .accepted (viewOf w.data) (s.windowRead w)).health.clashCount := by
    have hc : clashes .accepted (decideRound .accepted (viewOf w.data) (s.windowRead w)) = false :=
      Bool.of_not_eq_true fun hc => by
        obtain ⟨-, h1, h2⟩ := hiff.1 hc
        exact h ⟨hclash.1 h1, h2⟩
    rw [takeDecision_accepted (s := s.windowRead w) hm hc]
    have hh := handOn_health ((decideRound .accepted (viewOf w.data) (s.windowRead w)).joinedAt
      (s.windowRead w).health.joining (decideRound .accepted (viewOf w.data) (s.windowRead w)).asm.index)
    exact ⟨(congrArg Health.link hh :), (congrArg Health.clashCount hh :)⟩
  refine ⟨fun hn => ?_, fun hy h0 => ?_, fun hy h1 => ?_⟩
  · obtain ⟨hl, he⟩ := hjoins fun h => hn h.1
    exact ⟨hl, he.trans (hcount.trans (if_neg fun h => hn (hclash.1 h)))⟩
  · obtain ⟨hl, he⟩ := hjoins fun h => by omega
    refine ⟨hl, he.trans (hcount.trans ?_)⟩
    rw [if_pos (hclash.2 hy), h0]; rfl
  · have hdec : (s.windowRead w).decides = true := (decides_iff _).2 (.inr (of_decide_eq_true hm))
    have hc := hiff.2 ⟨hperm, hclash.2 hy, h1⟩
    rw [takeDecision_clash hdec hc]
    have hfrom : DecidesFrom (atDecision (.roundEnd w) s) (s.windowRead w) :=
      ⟨rfl, rfl, rfl, rfl, rfl, rfl, rfl, rfl, rfl, rfl, rfl, rfl, rfl, rfl⟩
    refine ⟨enterIsolated_enters true (hfrom.decideRound _ _), ?_⟩
    rw [enterIsolated_health, (enterIsolated_clocks _ _).2, enterIsolated_asm]
    refine ⟨Bool.or_true _, ?_, rfl, rfl, rfl, rfl, ?_, ?_⟩
    · refine hcount.trans ?_
      rw [if_pos (hclash.2 hy)]
      omega
    · show ((s.windowRead w).asm.decided .accepted (s.windowRead w).line.permission (viewOf w.data).idx).index = _
      rw [hperm]
      unfold Assembler.decided
      rw [show (s.windowRead w).asm.image = some im from him]
      rfl
    · show (decideRound .accepted (viewOf w.data) (s.windowRead w)).health.nearEnd = _
      rfl

/-! ### The transmit queue (R174) -/

/-- The head's win count by R174, short of the third win. -/
theorem decided_wins (accepted : Bool) (out : Option Arbitration) {e : QueueEntry} (h : e.wins < 3) :
    e.decided accepted out =
      { e with
        wins :=
          if accepted = true ∧ out = some .won then e.wins + 1
          else if accepted = true ∧ out = some .lost then 0
          else e.wins } := by
  have hmin : min 3 (e.wins + 1) = e.wins + 1 := by omega
  unfold QueueEntry.decided
  cases accepted with
  | false => simp
  | true => rcases out with _ | _ | _ <;> simp [hmin]

/-- An entry short of its sixteenth round, one round older (R174). -/
theorem older_eq {e : QueueEntry} (h : e.age < 16) : e.older = { e with age := e.age + 1 } := by
  have hmin : min 16 (e.age + 1) = e.age + 1 := by omega
  unfold QueueEntry.older
  rw [hmin]

/-- The entries behind the head: one round older, and those that reach their sixteenth removed (R174). -/
theorem older_filter {q : List QueueEntry} (h : ∀ x ∈ q, x.age < 16) :
    (q.map QueueEntry.older).filter (fun x => decide (x.age < 16)) =
      (q.filter fun x => decide (x.age < 15)).map fun x => { x with age := x.age + 1 } := by
  rw [List.filter_map]
  have hmap : (q.filter ((fun x => decide (x.age < 16)) ∘ QueueEntry.older)) = q.filter fun x => decide (x.age < 15) := by
    refine List.filter_congr fun x hx => ?_
    show decide ((x.older).age < 16) = _
    rw [older_eq (h x hx)]
    exact decide_eq_decide.2 (by show x.age + 1 < 16 ↔ _; omega)
  rw [hmap]
  exact List.map_congr_left fun x hx => older_eq (h x (List.mem_of_mem_filter hx))

/-- The queue after an update, by its head and its rest (R174). -/
theorem updateQueue_cons (accepted : Bool) (out : Option Arbitration) {e : QueueEntry} {rest : List QueueEntry}
    (hq : ∀ x ∈ e :: rest, x.wins < 3 ∧ x.age < 16) :
    updateQueue accepted out (e :: rest) =
      (if 3 ≤ (e.decided accepted out).wins ∨ e.age = 15 then []
        else [{ e with wins := (e.decided accepted out).wins, age := e.age + 1 }]) ++
        (rest.filter fun x => decide (x.age < 15)).map fun x => { x with age := x.age + 1 } := by
  have hrest : ∀ x ∈ rest, x.age < 16 := fun x hx => (hq x (List.mem_cons_of_mem _ hx)).2
  obtain ⟨hw, ha⟩ := hq e List.mem_cons_self
  have hage : (e.decided accepted out).age = e.age := by rw [decided_wins accepted out hw]
  have hhead : (e.decided accepted out).older =
      { e with wins := (e.decided accepted out).wins, age := e.age + 1 } := by
    rw [older_eq (hage ▸ ha), decided_wins accepted out hw]
  have hdrop : updateQueue accepted out (e :: rest) =
      (if 3 ≤ (e.decided accepted out).wins then rest.map QueueEntry.older
        else { e with wins := (e.decided accepted out).wins, age := e.age + 1 } :: rest.map QueueEntry.older).filter
          fun x => decide (x.age < 16) := by
    rw [← hhead]; rfl
  rw [hdrop]
  by_cases h3 : 3 ≤ (e.decided accepted out).wins
  · rw [if_pos h3, if_pos (.inl h3), older_filter hrest]; rfl
  · rw [if_neg h3, List.filter_cons, older_filter hrest]
    by_cases h15 : e.age = 15
    · rw [if_neg (by simp [h15]), if_pos (.inr h15)]; rfl
    · rw [if_pos (decide_eq_true (by show e.age + 1 < 16; omega)), if_neg (by tauto)]; rfl

theorem codeEffect_queue (c : Code) (arg : Byte) (s : State) : (c.effect arg s).1.dir.queue = s.dir.queue := by
  cases c with
  | zoneSet =>
    simp only [Code.effect, effectZoneSet]
    split <;> rfl
  | testDamper => exact (congrArg DirectiveUnit.queue (rehome_dir s) :)
  | forceDefrost =>
    simp only [Code.effect, effectForceDefrost]
    split <;> rfl
  | _ => rfl

theorem execute_queue (d : Directive) (s : State) : (execute d s).dir.queue = s.dir.queue := by
  show (carryOut d s).1.dir.queue = _
  obtain h | ⟨c, -, h⟩ := carryOut_cases d s <;> rw [h]
  exact codeEffect_queue c d.arg s

/-- The directive unit leaves the transmit queue to the decisions (R174). -/
theorem handOn_queue (s : State) : (handOn s).dir.queue = s.dir.queue := by
  unfold handOn
  rw [roleRound_dir]
  obtain ⟨-, h⟩ | ⟨d, -, h | ⟨-, -, -, h⟩⟩ :=
    directiveRound_cases { s with coll := s.coll.round s.health.view s.health.plant }
  · rw [h]
  · rw [h]; exact rfl
  · rw [h]
    exact execute_queue d _

/-- A decision on a round that the station drove updates its queue, unless it isolates it (R55, R174). -/
theorem takeDecision_queue (v : Verdict) (w : View) {s : State} (hd : s.decides = true) :
    ((takeDecision v w s).health.link = .isolated → (takeDecision v w s).dir.queue = []) ∧
      ((takeDecision v w s).health.link ≠ .isolated →
        (takeDecision v w s).dir.queue = (s.dir.decided v s.line.permission s.line.outcomes.directive).queue) := by
  rcases takeDecision_cases v w s with ⟨h, -⟩ | ⟨-, -, h⟩ | ⟨-, -, -, h⟩ | ⟨-, -, -, j, i, -, h⟩ | ⟨l, b, j, h, hl⟩
  · rw [hd] at h; cases h
  · rw [h, enterIsolated_dir, enterIsolated_health]
    exact ⟨fun _ => rfl, fun hn => absurd rfl hn⟩
  · rw [h, enterIsolated_dir, enterIsolated_health]
    exact ⟨fun _ => rfl, fun hn => absurd rfl hn⟩
  · have hlink : (handOn ((decideRound v w s).joinedAt j i)).health.link = .joined :=
      (congrArg Health.link (handOn_health ((decideRound v w s).joinedAt j i)) :)
    rw [h, hlink]
    exact ⟨nofun, fun _ => handOn_queue _⟩
  · rw [h]
    have hl' : l ≠ .isolated := by
      rintro rfl
      rcases hl with ⟨-, hl, -⟩ | ⟨-, hl, -⟩ | ⟨-, hl, -⟩ | ⟨-, hl, -⟩ <;> cases hl
    exact ⟨fun e => absurd e hl', fun _ => rfl⟩

/-- The queue update of a decision that is not a missing round (R174). -/
theorem decided_queue {v : Verdict} (hv : v ≠ .missing) (p : Bool) (out : Option Arbitration) (u : DirectiveUnit) :
    (u.decided v p out).queue = if p = true then updateQueue v.isAccepted out u.queue else u.queue := by
  unfold DirectiveUnit.decided
  cases p <;> simp [hv]

/-- The queue after the decision on a window, told from the station `s` before the command: `u` comes to the decision (R55,
R174). -/
theorem takeDecision_queue_of {s u : State} {v : Verdict} (w : View) (hd : u.decides = true) (hv : v ≠ .missing)
    (hdir : u.dir = s.dir) (hperm : u.line.permission = s.line.permission) :
    ((takeDecision v w u).health.link = .isolated → (takeDecision v w u).dir.queue = []) ∧
      ((takeDecision v w u).health.link ≠ .isolated →
        (takeDecision v w u).dir.queue =
          if s.line.permission = true then
            updateQueue v.isAccepted (takeDecision v w u).line.outcomes.directive s.dir.queue
          else s.dir.queue) := by
  obtain ⟨hiso, hkept⟩ := takeDecision_queue v w hd
  have hout : (takeDecision v w u).line.outcomes = u.line.outcomes :=
    (congrArg LineBlock.outcomes (takeDecision_line v w u) :)
  rw [decided_queue hv, hperm, hdir] at hkept
  rw [hout]
  exact ⟨hiso, hkept⟩

/-- Settles O26: the three steps on the head and on the rest, and the link state that the decision leaves. -/
theorem queueAgesAndDropsItsHead : Obligations.QueueAgesAndDropsItsHead := by
  refine ⟨?_, fun _ _ => rfl, fun s w hm hr => ⟨?_, fun hd data frame => ?_⟩⟩
  · intro accepted out e rest hq wins aged tail
    obtain ⟨hw, -⟩ := hq e List.mem_cons_self
    have hwins : (e.decided accepted out).wins = wins := congrArg QueueEntry.wins (decided_wins accepted out hw)
    have hle : wins ≤ 3 := by
      dsimp only [wins]
      split_ifs <;> omega
    rw [updateQueue_cons accepted out hq, hwins]
    by_cases h : wins = 3 ∨ e.age = 15
    · rw [if_pos (by omega), if_pos h]; exact rfl
    · rw [if_neg (by omega), if_neg h]; exact rfl
  · have hdec : (s.readAt (.roundEnd w)).decides = true := (decides_iff _).2 (.inr (of_decide_eq_true hm))
    have hx : exec (.roundEnd w) s =
        .next (takeDecision (s.verdictAt (.roundEnd w)) (viewOf w.data) (s.readAt (.roundEnd w))) :=
      exec_roundEnd_of_inRound w hr
    have hperm : (s.readAt (.roundEnd w)).line.permission = s.line.permission := LineBlock.read_permission ..
    by_cases ha : EndsAccepted w s
    · have hv : s.verdictAt (.roundEnd w) = .accepted := ha.closed.2
      rw [hv] at hx
      obtain ⟨hiso, hkept⟩ := takeDecision_queue_of (s := s) (v := .accepted) (viewOf w.data) hdec nofun rfl hperm
      refine ⟨_, hx, hiso, fun hn hp => ?_, fun hn hp => ⟨fun _ => ?_, fun h => absurd ha h⟩⟩
      · rw [hkept hn, hp]; exact if_neg Bool.false_ne_true
      · rw [hkept hn, if_pos hp]; exact rfl
    · obtain ⟨hv, hmiss, -⟩ := verdictAt_roundEnd (endsBad_of_not_accepted hr ha)
      obtain ⟨hiso, hkept⟩ := takeDecision_queue_of (s := s) (viewOf w.data) hdec hmiss rfl hperm
      refine ⟨_, hx, hiso, fun hn hp => ?_, fun hn hp => ⟨fun h => absurd h ha, fun _ => ?_⟩⟩
      · rw [hkept hn, hp]; exact if_neg Bool.false_ne_true
      · rw [hkept hn, if_pos hp, hv]
  · have hq : s.health.link ≠ .quiet := by rintro e; rw [State.mayDrive, e] at hm; cases hm
    have hdec : (s.readAt (.syncRecognised data frame)).decides = true :=
      (decides_iff _).2 (.inr (of_decide_eq_true hm))
    obtain ⟨hiso, hkept⟩ := takeDecision_queue_of (s := s) (v := .incomplete)
      (s.wireAt (.syncRecognised data frame)) hdec nofun rfl (LineBlock.read_permission ..)
    exact ⟨_, exec_syncRecognised_of_inRound data frame ((receives_iff s).2 hq) hd hr, hiso, hkept⟩

end Sys2Proof.Machine

/-! O13, O25. The accepted round handed on, and the directive unit at it (R39, R43 to R45, R176 to R180). -/

namespace Sys2Proof.Machine

/-! ### Executions do not read the tracker (R177) -/

/-- The station with its tracker replaced. -/
def State.withTracker (x : Tracker) (s : State) : State := { s with dir := { s.dir with tracker := x } }

theorem rehome_withTracker (x : Tracker) (s : State) : rehome (s.withTracker x) = (rehome s).withTracker x := by
  unfold rehome
  rw [show (s.withTracker x).damper.fault = s.damper.fault from rfl]
  split <;> rfl

/-- A directive's effect neither reads nor changes the tracker. -/
theorem codeEffect_withTracker (c : Code) (arg : Byte) (x : Tracker) (s : State) :
    c.effect arg (s.withTracker x) = ((c.effect arg s).1.withTracker x, (c.effect arg s).2) := by
  cases c with
  | zoneSet =>
    simp only [Code.effect, effectZoneSet]
    split <;> rfl
  | testDamper =>
    simp only [Code.effect, effectTestDamper, rehome_withTracker]
    rfl
  | forceDefrost =>
    simp only [Code.effect, effectForceDefrost]
    rw [show forceDefrostOk (s.withTracker x).mode (s.withTracker x).outdoor = forceDefrostOk s.mode s.outdoor from rfl]
    split <;> rfl
  | _ => rfl

theorem execute_withTracker (d : Directive) (x : Tracker) (s : State) : execute d (s.withTracker x) = execute d s := by
  unfold execute carryOut
  rw [show (s.withTracker x).role = s.role from rfl]
  cases acceptedCode s.role d with
  | none => rfl
  | some c =>
    dsimp only
    rw [codeEffect_withTracker]
    rfl

/-! ### Codes and their numbers (R179) -/

/-- A number that names a code is that code's number (R179): line by line of the table. -/
theorem number_of_codeOf {n : Byte} {c : Code} (h : codeOf n = some c) : c.number = n := by
  have key (a : Code) {x : Option Code} (h : (if n = a.number then some a else x) = some c) :
      c.number = n ∨ x = some c := by
    split at h
    · next e => cases h; exact .inl e.symm
    · exact .inr h
  exact
    (key .setCool h).elim id fun h =>
    (key .setHeat h).elim id fun h =>
    (key .setHumid h).elim id fun h =>
    (key .zoneSet h).elim id fun h =>
    (key .read h).elim id fun h =>
    (key .testDamper h).elim id fun h =>
    (key .testBlower h).elim id fun h =>
    (key .testSpeed h).elim id fun h =>
    (key .forceDefrost h).elim id fun h =>
    (key .corruptCheck h).elim id fun h =>
    (key .muteCount h).elim id fun h =>
    (key .clearTrip h).elim id fun h =>
    (key .normal h).elim id fun h =>
    nomatch h

/-- The row of a code (R179). -/
def Code.row (c : Code) (source dest : Nibble) (arg : Byte) : Instr :=
  match c with
  | .setCool => .setCool source dest arg
  | .setHeat => .setHeat source dest arg
  | .setHumid => .setHumid source dest arg
  | .zoneSet => .zoneSet source dest arg
  | .read => .read source dest arg
  | .testDamper => .testDamper source dest arg
  | .testBlower => .testBlower source dest arg
  | .testSpeed => .testSpeed source dest arg
  | .forceDefrost => .forceDefrost source dest arg
  | .corruptCheck => .corruptCheck source dest arg
  | .muteCount => .muteCount source dest arg
  | .clearTrip => .clearTrip source dest arg
  | .normal => .normal source dest arg

theorem exec_row (c : Code) (source dest : Nibble) (arg : Byte) (s : State) :
    exec (c.row source dest arg) s = .next (runDirective c source dest arg s) := by
  cases c <;> rfl

/-- The command of a directive is the row of its code, none for a code outside the table (R179). -/
theorem directiveRow_eq (d : Directive) : directiveRow d = (codeOf d.code).map fun c => c.row d.source d.dest d.arg := by
  unfold directiveRow codeOf
  simp only [apply_ite (Option.map _), Option.map_some, Option.map_none]
  exact rfl

/-! ### The directive unit's three ways (R176 to R178) -/

/-- The tracker's update makes the reception of `d` the third of a directive not yet executed (R176, R177). -/
theorem tracker_third_iff (d : Directive) (t : Tracker) :
    (t.update (some d)).count = 3 ∧ (t.update (some d)).executed = none ↔
      t.last = some d ∧ 2 ≤ t.count ∧ t.executed = none := by
  simp only [Tracker.update]
  split_ifs with h
  · dsimp only
    constructor
    · exact fun ⟨hc, he⟩ => ⟨h, by omega, he⟩
    · exact fun ⟨_, hc, he⟩ => ⟨by omega, he⟩
  · exact iff_of_false (fun e => by simp at e) fun e => h e.1

/-- The third reception executes the directive, as on the station before the tracker's update (R177). -/
theorem directiveRound_third {s : State} {d : Directive} (hf : unpackDirective s.health.view.directive = some d)
    (ht : s.dir.tracker.last = some d ∧ 2 ≤ s.dir.tracker.count ∧ s.dir.tracker.executed = none)
    (ha : d.dest = s.rst.address ∨ d.dest = 15) : directiveRound s = oweReply d (execute d s) := by
  obtain ⟨hc, he⟩ := (tracker_third_iff d s.dir.tracker).2 ht
  rw [← execute_withTracker d (s.dir.tracker.update (some d)) s]
  unfold directiveRound
  rw [hf]
  exact if_pos ⟨hc, he, decide_eq_true ha⟩

/-- Any other reception moves the tracker and owes a reply (R176, R178). -/
theorem directiveRound_other {s : State} {d : Directive} (hf : unpackDirective s.health.view.directive = some d)
    (hn : ¬ ((s.dir.tracker.last = some d ∧ 2 ≤ s.dir.tracker.count ∧ s.dir.tracker.executed = none) ∧
      (d.dest = s.rst.address ∨ d.dest = 15))) :
    directiveRound s = oweReply d (s.withTracker (s.dir.tracker.update (some d))) := by
  unfold directiveRound
  rw [hf]
  refine if_neg fun ⟨hc, he, ha⟩ => hn ⟨(tracker_third_iff d s.dir.tracker).1 ⟨hc, he⟩, ?_⟩
  simpa [Directive.addressedTo] using ha

theorem directiveRound_empty {s : State} (hf : unpackDirective s.health.view.directive = none) :
    directiveRound s = { s with dir := { s.dir with tracker := .cleared, reply := none } } := by
  unfold directiveRound
  rw [hf]
  rfl

theorem complement_eq_top_iff (a : Nibble) : 15#4 - a = 15 ↔ a = 0 := by revert a; decide

/-- A directive that a round carries has a source that sends (R172). -/
theorem source_of_unpackDirective {v : BitVec 24} {d : Directive} (h : unpackDirective v = some d) : d.source ≠ 15 := by
  unfold unpackDirective at h
  split_ifs at h with h0
  cases h
  exact fun e => h0 ((complement_eq_top_iff _).1 e)

/-! ### The station that has adopted the round (R39, R53, R105) -/

/-- An accepted round that is handed on goes to the directive unit and then to the role's block (R39). -/
theorem exec_handedOn {w : Window} {s : State} (h : HandedOn w s) :
    exec (.roundEnd w) s = .next (roleRound s.zone.settings (directiveRound (adopted w s))) := by
  obtain ⟨ha, hmark, hl⟩ := h
  refine execRoundEnd_handedOn ha (hl.imp And.left fun ⟨h1, _, h3⟩ => ⟨h1, h3⟩) (Bool.of_not_eq_true fun hc => ?_)
  obtain ⟨hp, hm, h1⟩ := (clashes_accepted_iff _ _).1 hc
  rw [windowRead_permission] at hp
  rw [windowRead_clashMark, hmark] at hm
  obtain ⟨im, him, hclash⟩ := hm.resolve_left Bool.false_ne_true
  obtain ⟨-, hfirst⟩ | ⟨-, hnot, -⟩ := hl
  · have h0 : s.health.clashCount = 0 := hfirst hp im him hclash
    rw [show (s.windowRead w).health.clashCount = s.health.clashCount from rfl, h0] at h1
    exact absurd h1 (by decide)
  · rw [hp] at hnot; cases hnot

/-- The station that the directive unit and the role's block find at an accepted round (R37, R53, R105). -/
theorem adopted_spec (w : Window) (s : State) :
    (adopted w s).health.view = viewOf w.data ∧
      (adopted w s).health.plant = s.health.plant.update (viewOf w.data).plant ∧
      (adopted w s).health.link = .joined ∧ (adopted w s).health.badRun = 0 ∧ (adopted w s).health.disagree = false ∧
      (adopted w s).health.lastAccepted = true ∧ (adopted w s).health.candidate = none ∧
      (adopted w s).health.addressClash = s.health.addressClash ∧
      (adopted w s).coll = s.coll.round (viewOf w.data) (s.health.plant.update (viewOf w.data).plant) ∧
      (adopted w s).dir.tracker = s.dir.tracker ∧ (adopted w s).rst = s.rst ∧ (adopted w s).meas = s.meas ∧
      (adopted w s).line.rx = .idle := by
  have ht := decideRound_tracker .accepted (viewOf w.data) (s.windowRead w)
  unfold adopted
  dsimp only
  split
  · exact ⟨rfl, rfl, rfl, rfl, rfl, rfl, rfl, rfl, rfl, ht, rfl, rfl, rfl⟩
  · exact ⟨rfl, rfl, rfl, rfl, rfl, rfl, rfl, rfl, rfl, ht, rfl, rfl, rfl⟩

/-- What the reception of a directive by the station is, told from the station that has adopted the round (R176, R177). -/
theorem thirdReception_iff {d : Directive} {w : Window} {s : State}
    (hf : unpackDirective (viewOf w.data).directive = some d) :
    ThirdReception d w s ↔
      ((adopted w s).dir.tracker.last = some d ∧ 2 ≤ (adopted w s).dir.tracker.count ∧
          (adopted w s).dir.tracker.executed = none) ∧
        (d.dest = (adopted w s).rst.address ∨ d.dest = 15) := by
  obtain ⟨-, -, -, -, -, -, -, -, -, ht, hr, -⟩ := adopted_spec w s
  rw [ht, hr]
  exact ⟨fun ⟨_, h1, h2, h3, h4⟩ => ⟨⟨h1, h2, h3⟩, h4⟩, fun ⟨⟨h1, h2, h3⟩, h4⟩ => ⟨hf, h1, h2, h3, h4⟩⟩

/-- The execution by a code's own row and the third reception are one (R177; notes/assumptions/9). -/
theorem exec_directiveRow {d : Directive} {row : Instr} {s : State} (hr : directiveRow d = some row)
    (hd : Heard d.source d.dest s) : exec row s = .next (oweReply d (execute d s)) := by
  rw [directiveRow_eq] at hr
  obtain ⟨c, hc, rfl⟩ := Option.map_eq_some_iff.1 hr
  rw [exec_row, runDirective_heard hd, number_of_codeOf hc]

theorem acceptedCode_of_codeOf_none {r : Role} {d : Directive} (h : codeOf d.code = none) : acceptedCode r d = none := by
  unfold acceptedCode
  rw [h]

theorem replyOf_eq (r : Role) (d : Directive) (t : Tracker) :
    replyOf r d t =
      (match t.executed with
      | some x => if x.done then ⟨2, x.data⟩ else ⟨3, d.arg⟩
      | none => if acceptedCode r d = none then ⟨3, d.arg⟩ else ⟨1, d.arg⟩) := by
  unfold replyOf
  cases t.executed with
  | some x => rfl
  | none => cases acceptedCode r d <;> rfl

/-- Settles O25: an empty field, the third reception, and any other. -/
theorem thirdReceptionExecutesOnce : Obligations.ThirdReceptionExecutesOnce := by
  intro s w h u
  obtain ⟨hview, -, hlink, -, -, -, -, -, -, htr, hrst, -⟩ := adopted_spec w s
  refine ⟨_, exec_handedOn h, ?_⟩
  cases hf : unpackDirective (viewOf w.data).directive with
  | none => exact directiveRound_empty (by rw [hview, hf])
  | some d =>
    have hfu : unpackDirective (adopted w s).health.view.directive = some d := by rw [hview, hf]
    refine ⟨fun h3 => ?_, fun h3 => ?_⟩
    · obtain ⟨ht, ha⟩ := (thirdReception_iff hf).1 h3
      rw [directiveRound_third hfu ht ha]
      refine ⟨fun row hrow => exec_directiveRow hrow ⟨hlink, source_of_unpackDirective hf, ha⟩, fun hnone => ?_⟩
      rw [directiveRow_eq, Option.map_eq_none_iff] at hnone
      rw [oweReply_execute_refused (acceptedCode_of_codeOf_none hnone)]
      exact refused_unable u d
    · rw [directiveRound_other hfu fun hn => h3 ((thirdReception_iff hf).2 hn)]
      have haddr : (adopted w s).rst.address = s.rst.address := congrArg ResetBlock.address hrst
      have hlast : u.dir.tracker.last = s.dir.tracker.last := congrArg Tracker.last htr
      refine ⟨fun hne => ?_, fun he => ?_, fun hne => ?_, fun he => ?_, rfl⟩
      · exact if_neg (hlast ▸ hne)
      · refine Eq.trans (if_pos (hlast ▸ he)) ?_
        rw [htr]
      · exact if_neg fun e => hne (e.trans haddr)
      · refine Eq.trans (if_pos (he.trans haddr.symm)) (congrArg some ?_)
        have hrole : (u.withTracker (u.dir.tracker.update (some d))).role = s.role :=
          congrArg (fun r : ResetBlock => roleOf r.address) hrst
        rw [hrole]
        exact replyOf_eq _ _ _

/-! ### The error counts (R43, R44, R180) -/

/-- A READ of an item is taken up in every role (R179). -/
theorem acceptedCode_read {d : Directive} (r : Role) (hc : d.code = 0x10) (ha : d.arg.toNat ≤ 15) :
    acceptedCode r d = some .read := by
  have hcode : codeOf d.code = some .read := by rw [hc]; rfl
  unfold acceptedCode
  rw [hcode]
  exact if_pos (by simp [Code.forRole, Code.argOk, ha])

/-- Only a READ reaches the acceptance block (R44). -/
theorem codeEffect_health_of_ne_read {c : Code} (hc : c ≠ .read) (arg : Byte) (s : State) :
    (c.effect arg s).1.health = s.health := by
  cases c with
  | read => exact absurd rfl hc
  | zoneSet =>
    simp only [Code.effect, effectZoneSet]
    split <;> rfl
  | testDamper => exact rehome_health s
  | forceDefrost =>
    simp only [Code.effect, effectForceDefrost]
    split <;> rfl
  | _ => rfl

/-- An execution clears the error count that a READ of item 8 or 9 names, and leaves the acceptance block otherwise (R44,
R180). -/
theorem execute_health_eq (d : Directive) (s : State) :
    (execute d s).health =
      { s.health with
        nearEnd := if d.code = 0x10 ∧ d.arg = 8 then 0 else s.health.nearEnd
        farEnd := if d.code = 0x10 ∧ d.arg = 9 then 0 else s.health.farEnd } := by
  have hread : d.code = 0x10 → d.arg.toNat ≤ 15 → acceptedCode s.role d = some .read := acceptedCode_read s.role
  obtain ⟨c, hc, h⟩ | ⟨hc, h⟩ := execute_cases d s <;> rw [h]
  · show (c.effect d.arg s).1.health = _
    obtain ⟨hcode, -, -⟩ := acceptedCode_some hc
    by_cases hr : c = .read
    · have h10 : d.code = 0x10 := by rw [← number_of_codeOf hcode, hr]; rfl
      rw [hr]
      simp [Code.effect, effectRead, h10]
    · have h10 : d.code ≠ 0x10 := fun e => hr (by rw [e] at hcode; exact (Option.some.inj hcode).symm)
      rw [codeEffect_health_of_ne_read hr, if_neg fun h => h10 h.1, if_neg fun h => h10 h.1]
  · have h8 : ¬ (d.code = 0x10 ∧ d.arg = 8) := fun ⟨h1, h2⟩ => by
      rw [hread h1 (by rw [h2]; decide)] at hc; cases hc
    have h9 : ¬ (d.code = 0x10 ∧ d.arg = 9) := fun ⟨h1, h2⟩ => by
      rw [hread h1 (by rw [h2]; decide)] at hc; cases hc
    rw [if_neg h8, if_neg h9]

/-- A READ of item `n` is executed at the round (R177, R180). -/
def Reads (n : Byte) (w : Window) (s : State) : Prop := ∃ d, ThirdReception d w s ∧ d.code = 0x10 ∧ d.arg = n

/-- The error counts after the directive unit's work (R44, R180). -/
theorem directiveRound_counts (w : Window) (s : State) :
    (Reads 8 w s → (directiveRound (adopted w s)).health.nearEnd = 0) ∧
      (¬ Reads 8 w s → (directiveRound (adopted w s)).health.nearEnd = (adopted w s).health.nearEnd) ∧
      (Reads 9 w s → (directiveRound (adopted w s)).health.farEnd = 0) ∧
      (¬ Reads 9 w s → (directiveRound (adopted w s)).health.farEnd = (adopted w s).health.farEnd) := by
  obtain ⟨hview, -⟩ := adopted_spec w s
  have hsame {d : Directive} (hf : unpackDirective (viewOf w.data).directive = some d) {d' : Directive}
      (h : ThirdReception d' w s) : d' = d := by
    obtain ⟨hf', -⟩ := h
    rw [hf] at hf'
    exact (Option.some.inj hf').symm
  cases hf : unpackDirective (viewOf w.data).directive with
  | none =>
    have hno (n : Byte) : ¬ Reads n w s := fun ⟨d, ⟨h, _⟩, _⟩ => by rw [hf] at h; cases h
    rw [directiveRound_empty (by rw [hview, hf])]
    exact ⟨fun h => absurd h (hno _), fun _ => rfl, fun h => absurd h (hno _), fun _ => rfl⟩
  | some d =>
    have hfu : unpackDirective (adopted w s).health.view.directive = some d := by rw [hview, hf]
    by_cases h3 : ThirdReception d w s
    · obtain ⟨ht, ha⟩ := (thirdReception_iff hf).1 h3
      have hreads (n : Byte) : Reads n w s ↔ d.code = 0x10 ∧ d.arg = n :=
        ⟨fun ⟨d', h', h⟩ => hsame hf h' ▸ h, fun h => ⟨d, h3, h⟩⟩
      rw [directiveRound_third hfu ht ha, oweReply_health, execute_health_eq, hreads, hreads]
      exact ⟨fun h => if_pos h, fun h => if_neg h, fun h => if_pos h, fun h => if_neg h⟩
    · have hno (n : Byte) : ¬ Reads n w s := fun ⟨d', h', _⟩ => h3 (hsame hf h' ▸ h')
      rw [directiveRound_other hfu fun hn => h3 ((thirdReception_iff hf).2 hn)]
      exact ⟨fun h => absurd h (hno _), fun _ => rfl, fun h => absurd h (hno _), fun _ => rfl⟩

/-- The counts and the index of a station that has adopted a round in JOINED or HOLDOVER (R22, R42, R43, R47). -/
theorem adopted_of_mayDrive {w : Window} {s : State} (hm : s.mayDrive = true) :
    (adopted w s).health.nearEnd = s.health.nearEnd ∧
      (adopted w s).health.farEnd =
        (if s.line.permission = true ∧ (viewOf w.data).flags.getLsbD 3 = true ∧ s.health.lastAccepted = true ∧
            s.dir.tests.mute = false then
          min 255 (s.health.farEnd + 1)
        else s.health.farEnd) ∧
      (adopted w s).health.clashCount =
        (decideRound .accepted (viewOf w.data) (s.windowRead w)).health.clashCount ∧
      (adopted w s).asm = s.asm.decided .accepted s.line.permission (viewOf w.data).idx := by
  have hn : s.health.link ≠ .listen := fun e => by rw [State.mayDrive, e] at hm; cases hm
  have hp := windowRead_permission w s
  have hfar : (decideRound .accepted (viewOf w.data) (s.windowRead w)).health.farEnd =
      if s.line.permission = true ∧ (viewOf w.data).flags.getLsbD 3 = true ∧ s.health.lastAccepted = true ∧
          s.dir.tests.mute = false then
        min 255 (s.health.farEnd + 1)
      else s.health.farEnd := by
    show (if countsFar .accepted (s.windowRead w).line.permission s.health.lastAccepted (viewOf w.data) &&
      !s.dir.tests.mute then countUp s.health.farEnd else s.health.farEnd) = _
    rw [hp]
    refine if_congr ?_ rfl rfl
    simp only [countsFar, Verdict.isAccepted, View.disagree, Bool.true_and, Bool.and_eq_true, Bool.not_eq_true', and_assoc]
  unfold adopted
  dsimp only
  rw [if_neg hn]
  refine ⟨rfl, hfar, rfl, ?_⟩
  rw [← hp]
  rfl

/-- Settles O13: what the decision leaves, then what the directive unit leaves of it. -/
theorem acceptedRoundIsHandedOn : Obligations.AcceptedRoundIsHandedOn := by
  intro s w hm h reads
  obtain ⟨hview, hplant, hlink, hrun, hdis, hlast, hcand, hclash, hcoll, -, hrst, hmeas, hrx⟩ := adopted_spec w s
  obtain ⟨hnear, hfar, hcount, hasm⟩ := adopted_of_mayDrive (w := w) hm
  obtain ⟨n8, k8, n9, k9⟩ := directiveRound_counts w s
  have hh := directiveRound_health (adopted w s)
  have kview := (congrArg Health.view hh :).trans hview
  have kplant := (congrArg Health.plant hh :).trans hplant
  have kcount := (congrArg Health.clashCount hh :).trans hcount
  have kcoll : (directiveRound (adopted w s)).coll = _ := (directiveRound_coll _).trans hcoll
  refine ⟨_, exec_handedOn h, ?_⟩
  rw [roleRound_line, roleRound_health, roleRound_coll, roleRound_asm, roleRound_rst, roleRound_meas, directiveRound_line,
    directiveRound_asm, directiveRound_rst, directiveRound_meas]
  refine ⟨hrx, (congrArg Health.candidate hh :).trans hcand, kview, kplant, (congrArg Health.link hh :).trans hlink,
    (congrArg Health.badRun hh :).trans hrun, (congrArg Health.disagree hh :).trans hdis,
    (congrArg Health.lastAccepted hh :).trans hlast, (congrArg Health.addressClash hh :).trans hclash,
    fun hp hno => ?_, fun hp => ?_, ?_, ?_, fun im him hp => ?_, n8, fun hn => (k8 hn).trans hnear, n9,
    fun hn => (k9 hn).trans hfar, hrst, hmeas⟩
  · rw [kcount, decideRound_clashCount, if_pos ((windowRead_permission w s).trans hp), if_neg]
    rw [windowRead_clashMark, h.2.1]
    rintro (hf | ⟨im, him, hc⟩)
    · cases hf
    · exact hno im him hc
  · rw [kcount, decideRound_clashCount, if_neg]
    · rfl
    · rw [windowRead_permission, hp]; decide
  · rw [kcoll]
    exact adopt_eq _ _
  · rw [kview, kplant, kcoll]
    rfl
  · rw [hasm, hp]
    unfold Assembler.decided
    rw [him]
    rfl

end Sys2Proof.Machine


/-! O29. An edge on a capture channel does one of four things by the channel's state: it opens a period, closes one and
latches its pair, stops the high-time count, or changes nothing. -/

namespace Sys2Proof.Machine

/-! ### What an edge does to a channel (R60, R61) -/

/-- The period that an edge ends has a pair that the rules know: H at least 1 and P longer than H (R60). -/
theorem complete_iff {x : Capture} : x.complete = true ↔ 0 < x.high.us ∧ x.high.us < x.period.us := by
  simp [Capture.complete]

theorem overdue_iff {x : Capture} : x.overdue = true ↔ 65535 ≤ x.period.us := by
  rw [Capture.overdue, decide_eq_true_iff]
  exact Iff.rfl

/-- A rising edge in HIGH, or one that comes sooner in LOW than an edge can, changes nothing. -/
theorem rise_keeps {x : Capture}
    (h : x.c.state = .high ∨
      x.c.state = .low ∧ x.period.us < 65535 ∧ ¬ (0 < x.high.us ∧ x.high.us < x.period.us)) : x.rise = x := by
  obtain h | ⟨hl, hp, hc⟩ := h
  · rw [Capture.rise, h]
  · have ho : ¬ x.overdue = true := by rw [overdue_iff]; omega
    rw [Capture.rise, hl]
    dsimp only
    rw [if_neg ho, if_neg (complete_iff.not.mpr hc)]

/-- A rising edge with no period to end opens one. -/
theorem rise_opens {x : Capture} (h : x.c.state = .waitEdge ∨ x.c.state = .low ∧ 65535 ≤ x.period.us) :
    x.rise = x.begin := by
  obtain h | ⟨hl, hp⟩ := h
  · rw [Capture.rise, h]
  · rw [Capture.rise, hl]
    dsimp only
    rw [if_pos (overdue_iff.mpr hp)]

/-- A rising edge in LOW ends the period, latches its pair, and opens the next one. -/
theorem rise_latches {x : Capture} (hl : x.c.state = .low) (hp : x.period.us < 65535)
    (hc : 0 < x.high.us ∧ x.high.us < x.period.us) : x.rise = x.latch.begin := by
  have ho : ¬ x.overdue = true := by rw [overdue_iff]; omega
  rw [Capture.rise, hl]
  dsimp only
  rw [if_neg ho, if_pos (complete_iff.mpr hc)]

/-- The pair is latched if fresh is clear, and dropped otherwise (R61). -/
theorem latch_dropped {x : Capture} (h : x.c.fresh = true) : x.latch = x := if_pos h

theorem latch_taken {x : Capture} (h : x.c.fresh = false) :
    x.latch = { x with c := { x.c with p := x.period.us, h := x.high.us, fresh := true } } :=
  if_neg (by simp [h])

/-- A falling edge in HIGH stops the high-time count and enters LOW. -/
theorem fall_closes {x : Capture} (hh : x.c.state = .high) (hp : x.period.us < 65535) (hu : 0 < x.high.us) :
    x.fall = ⟨{ x.c with state := .low }, x.period, ⟨false, x.high.us⟩⟩ := by
  have ho : ¬ x.overdue = true := by rw [overdue_iff]; omega
  rw [Capture.fall, hh]
  dsimp only
  rw [if_neg ho, if_pos hu]

/-- A falling edge in a period that is over finds the channel abandoned (R60). -/
theorem fall_abandons {x : Capture} (hh : x.c.state = .high) (hp : 65535 ≤ x.period.us) : x.fall = x.await := by
  rw [Capture.fall, hh]
  dsimp only
  rw [if_pos (overdue_iff.mpr hp)]

/-- A falling edge elsewhere, or one that comes sooner than an edge can, changes nothing. -/
theorem fall_keeps {x : Capture} (h : x.c.state ≠ .high ∨ x.period.us < 65535 ∧ x.high.us = 0) : x.fall = x := by
  unfold Capture.fall
  cases hs : x.c.state with
  | high =>
    obtain ⟨hp, hu⟩ := h.resolve_left (not_not_intro hs)
    have ho : ¬ x.overdue = true := by rw [overdue_iff]; omega
    dsimp only
    rw [if_neg ho, if_neg (by omega)]
  | low => rfl
  | waitEdge => rfl
  | stopped => rfl

/-! ### The channel in its station -/

theorem withCapture_twice (s : State) (ch : Channel) (x y : Capture) :
    (s.withCapture ch x).withCapture ch y = s.withCapture ch y := by
  cases ch <;> rfl

theorem withCapture_self (s : State) (ch : Channel) : s.withCapture ch (s.capture ch) = s := by
  cases ch <;> rfl

theorem capture_elapse (n : Nat) (s : State) (ch : Channel) : ((elapse n s).capture ch).c = (s.capture ch).c := by
  cases ch <;> rfl

theorem capture_elapseTo (t : Timer) (limit : Nat) (s : State) (ch : Channel) :
    ((elapseTo t limit s).capture ch).c = (s.capture ch).c := capture_elapse _ s ch

/-- A rising edge on a channel that runs is the edge's work on the channel, `n` ticks later. -/
theorem exec_captureRisingEdge {s : State} {ch : Channel} (n : Nat) (h : (s.capture ch).c.state ≠ .stopped) :
    exec (.captureRisingEdge ch n) s =
      .next ((elapse n s).withCapture ch ((elapse n s).capture ch).rise) :=
  congrArg Host.Outcome.next (if_neg h)

/-- A falling edge on a channel that runs is the edge's work on the channel, `n` ticks later. -/
theorem exec_captureFallingEdge {s : State} {ch : Channel} (n : Nat) (h : (s.capture ch).c.state ≠ .stopped) :
    exec (.captureFallingEdge ch n) s =
      .next ((elapse n s).withCapture ch ((elapse n s).capture ch).fall) :=
  congrArg Host.Outcome.next (if_neg h)

/-- An open period that runs over is abandoned, with its pair and its fresh flag as they were (R60). -/
theorem exec_periodAbandoned {s : State} {ch : Channel}
    (h : (s.capture ch).c.state = .high ∨ (s.capture ch).c.state = .low) :
    exec (.periodAbandoned ch) s =
      .next ((elapseTo (s.capture ch).period 65535 s).withCapture ch
        ⟨{ (s.capture ch).c with state := .waitEdge }, ⟨false, 0⟩, ⟨false, 0⟩⟩) := by
  have ho : (s.capture ch).c.state.isOpen = true := by obtain h | h := h <;> rw [h] <;> rfl
  rw [← capture_elapseTo (s.capture ch).period 65535 s ch]
  exact congrArg Host.Outcome.next (if_pos ho)

/-- A rising edge that opens a period: the channel is in HIGH with both counts at 0, its ring and its misses as they were,
and its pair the one of the period that it ended, where there was one to latch. -/
theorem rise_starts {x : Capture}
    (h : x.c.state = .waitEdge ∨
      x.c.state = .low ∧ (65535 ≤ x.period.us ∨ 0 < x.high.us ∧ x.high.us < x.period.us)) :
    x.rise.c.state = .high ∧ x.rise.period = ⟨true, 0⟩ ∧ x.rise.high = ⟨true, 0⟩ ∧
      x.rise.c.ring = x.c.ring ∧ x.rise.c.misses = x.c.misses ∧
      (x.c.state = .low ∧ x.period.us < 65535 ∧ x.c.fresh = false →
        x.rise.c.fresh = true ∧ x.rise.c.p = x.period.us ∧ x.rise.c.h = x.high.us) ∧
      (x.c.state = .waitEdge ∨ 65535 ≤ x.period.us ∨ x.c.fresh = true →
        x.rise.c.fresh = x.c.fresh ∧ x.rise.c.p = x.c.p ∧ x.rise.c.h = x.c.h) := by
  by_cases hlatch : x.c.state = .low ∧ x.period.us < 65535
  · obtain ⟨hl, hp⟩ := hlatch
    have hw : x.c.state ≠ .waitEdge := by simp [hl]
    rw [rise_latches hl hp ((h.resolve_left hw).2.resolve_left (by omega))]
    cases hf : x.c.fresh with
    | false =>
      rw [latch_taken hf]
      refine ⟨rfl, rfl, rfl, rfl, rfl, fun _ => ⟨rfl, rfl, rfl⟩, ?_⟩
      rintro (hx | hx | hx)
      · exact absurd hx hw
      · exact absurd hx (Nat.not_le.mpr hp)
      · simp at hx
    | true =>
      rw [latch_dropped hf]
      exact ⟨rfl, rfl, rfl, rfl, rfl, fun hx => by simp at hx, fun _ => ⟨hf, rfl, rfl⟩⟩
  · rw [rise_opens (h.imp_right fun hl => ⟨hl.1, Nat.not_lt.mp fun hp => hlatch ⟨hl.1, hp⟩⟩)]
    exact ⟨rfl, rfl, rfl, rfl, rfl, fun hx => absurd ⟨hx.1, hx.2.1⟩ hlatch, fun _ => ⟨rfl, rfl, rfl⟩⟩

/-- Settles O29, by the channel's state at each of the two edges. -/
theorem edgesCaptureThePair : Obligations.EdgesCaptureThePair := by
  intro s ch n hrun
  refine ⟨?_, ?_, fun h => exec_periodAbandoned h⟩
  · intro s1 x pair
    refine ⟨_, exec_captureRisingEdge n hrun, fun h => ?_, fun h => ?_, ?_⟩
    · rw [rise_keeps h]
      exact withCapture_self _ _
    · rw [withCapture_capture]
      exact rise_starts h
    · rw [withCapture_twice]
      exact withCapture_self _ _
  · intro s1 x
    refine ⟨_, exec_captureFallingEdge n hrun, fun ⟨hh, hp, hu⟩ => ?_, fun ⟨hh, hp⟩ => ?_, fun h => ?_⟩
    · rw [fall_closes hh hp hu]
    · rw [fall_abandons hh hp]
      rfl
    · rw [fall_keeps h]
      exact withCapture_self _ _

end Sys2Proof.Machine


/-! SUPPORT and O28. The second tick as the role's work on the consumed channels, what a channel gives up at it, and what
each role's work leaves alone. -/

namespace Sys2Proof.Machine

/-! ### The tick and the rows that name it (R62, R63) -/

/-- SECOND_TICK of a station at work consumes both channels and then runs the role's work. -/
theorem exec_secondTick_of_ticking {s : State} (ht : Ticking s) :
    exec .secondTick s = .next (roleTick (consumed s)) := by
  obtain ⟨hrun, hchk⟩ := ht
  simp only [exec, execSecondTick, secondTick, State.started, hrun, hchk, decide_true, if_true]

/-- A row that names what the tick brings about is that tick. -/
theorem secondTickFor_of_ticking {s : State} {c : Bool} (ht : Ticking s) (hc : c = true) :
    secondTickFor c s = roleTick (consumed s) := by
  obtain ⟨hrun, hchk⟩ := ht
  simp only [secondTickFor, secondTick, State.started, hrun, hchk, hc, decide_true, Bool.and_true, if_true]

theorem roleTick_of_zone {s : State} (h : s.role = .zone) : roleTick (consumed s) = zoneTick (consumed s) := by
  have hr : (consumed s).role = .zone := h
  rw [roleTick, hr]

theorem roleTick_of_handler {s : State} (h : s.role = .handler) : roleTick (consumed s) = handlerTick (consumed s) := by
  have hr : (consumed s).role = .handler := h
  rw [roleTick, hr]

theorem roleTick_of_outdoor {s : State} (h : s.role = .outdoor) : roleTick (consumed s) = outdoorTick (consumed s) := by
  have hr : (consumed s).role = .outdoor := h
  rw [roleTick, hr]

theorem roleTick_of_absent {s : State} (h : s.role = .absent) : roleTick (consumed s) = consumed s := by
  have hr : (consumed s).role = .absent := h
  rw [roleTick, hr]

/-! ### A channel is consumed (R62, R67, R68) -/

theorem consume_of_some {conv : Nat → Nat → Option Nat} {c : CaptureChannel} {x : Nat} (h : c.taken conv = some x) :
    c.consume conv =
      { c with fresh := false, ring := (if 8 ≤ c.ring.length then c.ring.tail else c.ring) ++ [x], misses := 0 } := by
  rw [CaptureChannel.consume, h]
  exact rfl

theorem consume_of_none {conv : Nat → Nat → Option Nat} {c : CaptureChannel} (h : c.taken conv = none) :
    c.consume conv =
      { c with
        fresh := false
        ring := if 2 ≤ c.misses then [] else c.ring
        misses := min 3 (c.misses + 1) } := by
  rw [CaptureChannel.consume, h]
  simp only [CaptureChannel.miss, Nat.add_le_add_iff_right, show (3 : Nat) = 2 + 1 from rfl]

/-- The conversion of a channel, by channel and role (R59). -/
theorem consumed_channel (s : State) (ch : Channel) :
    (consumed s).meas.channel ch =
      (s.meas.channel ch).consume (if ch = .b ∧ s.role = .zone then humSample else tempSample) := by
  cases ch with
  | a => exact rfl
  | b =>
    have hb : (consumed s).meas.channel .b = (s.meas.channel .b).consume (sampleB s.role) := rfl
    rw [hb]
    cases s.role <;> rfl

/-! ### What the role's work leaves alone -/

/-- The role's work at a tick reaches the role's own blocks, the outputs and the timers. -/
theorem roleTick_frame (s : State) (u : State) (hu : u = toSecond s) :
    { roleTick (consumed s) with
      meas := u.meas, timers := u.timers, zone := u.zone, handler := u.handler, outdoor := u.outdoor, out := u.out } =
      u := by
  subst hu
  cases hr : s.role with
  | zone => rw [roleTick_of_zone hr]; exact rfl
  | handler => rw [roleTick_of_handler hr]; exact rfl
  | outdoor => rw [roleTick_of_outdoor hr]; exact rfl
  | absent => rw [roleTick_of_absent hr]; exact rfl

theorem roleTick_zone {s : State} (h : s.role ≠ .zone) : (roleTick (consumed s)).zone = s.zone := by
  cases hr : s.role with
  | zone => exact absurd hr h
  | handler => rw [roleTick_of_handler hr]; exact rfl
  | outdoor => rw [roleTick_of_outdoor hr]; exact rfl
  | absent => rw [roleTick_of_absent hr]; exact rfl

theorem roleTick_handler {s : State} (h : s.role ≠ .handler) : (roleTick (consumed s)).handler = s.handler := by
  cases hr : s.role with
  | zone => rw [roleTick_of_zone hr]; exact rfl
  | handler => exact absurd hr h
  | outdoor => rw [roleTick_of_outdoor hr]; exact rfl
  | absent => rw [roleTick_of_absent hr]; exact rfl

theorem roleTick_outdoor {s : State} (h : s.role ≠ .outdoor) : (roleTick (consumed s)).outdoor = s.outdoor := by
  cases hr : s.role with
  | zone => rw [roleTick_of_zone hr]; exact rfl
  | handler => rw [roleTick_of_handler hr]; exact rfl
  | outdoor => exact absurd hr h
  | absent => rw [roleTick_of_absent hr]; exact rfl

/-! ### The handler's second tick, machine by machine (R138 to R141) -/

/-- The cold-blow hold counts, and ends on a warm coil or at its ninetieth tick (R138). -/
theorem tickHold_eq (coil : Option Int) (h : Handler) :
    h.tickHold coil =
      { h with
        holdActive := h.holdActive && !decide (h.holdActive = true ∧ (atLeast coil 280 = true ∨ 89 ≤ h.holdCount))
        holdCount :=
          if h.holdActive = true ∧ (atLeast coil 280 = true ∨ 89 ≤ h.holdCount) then 0
          else if h.holdActive = true then h.holdCount + 1 else h.holdCount } := by
  obtain ⟨_, _, _, _, _, active, count, _, _, _, _, _, _, _⟩ := h
  cases active with
  | false => rfl
  | true =>
    by_cases hend : atLeast coil 280 = true ∨ 89 ≤ count
    · simp [Handler.tickHold, hend]
    · simp [Handler.tickHold, hend]

/-- A flag with a run count turns over when the run is full, and any tick that does not qualify ends the run (R139,
R140). -/
theorem watchFlag_eq (flag : Bool) (run full : Nat) (q : Bool) :
    watchFlag flag run (full + 1) q =
      (if q = true ∧ full ≤ run then !flag else flag, if q = true ∧ run < full then run + 1 else 0) := by
  unfold watchFlag
  cases q with
  | false => simp
  | true =>
    by_cases hf : full ≤ run
    · simp [hf]
    · simp [hf, Nat.not_le.mp hf]

/-- The auxiliary heat machine (R141): ON at 600 ticks in a row of its conditions or at once in a defrost, OFF out of HEAT
or at a low peak. -/
theorem tickAux_eq (m : Mode) (f : PlantFilter) (ph : Nat) (h : Handler) :
    h.tickAux m f ph =
      { h with
        auxOn :=
          if h.auxOn = true ∧ (¬ m = .heat ∨ ¬ f.defrost.value = true ∧ ph < 40) then false
          else if h.auxOn = false ∧
              (m = .heat ∧ f.defrost.value = true ∨
                (m = .heat ∧ 56 ≤ ph ∧ f.compRun.value = true) ∧ 599 ≤ h.auxRun) then true
          else h.auxOn
        auxRun :=
          if h.auxOn = true then
            (if h.auxOn = true ∧ (¬ m = .heat ∨ ¬ f.defrost.value = true ∧ ph < 40) then 0 else h.auxRun)
          else if (m = .heat ∧ 56 ≤ ph ∧ f.compRun.value = true) ∧
              ¬ (h.auxOn = false ∧
                (m = .heat ∧ f.defrost.value = true ∨
                  (m = .heat ∧ 56 ≤ ph ∧ f.compRun.value = true) ∧ 599 ≤ h.auxRun)) then h.auxRun + 1
          else 0 } := by
  obtain ⟨_, _, _, _, _, _, _, _, _, _, _, _, aux, run⟩ := h
  cases aux with
  | true =>
    by_cases hend : ¬ m = .heat ∨ ¬ f.defrost.value = true ∧ ph < 40
    · simp only [Handler.tickAux, if_true, true_and, if_pos hend, ne_eq]
    · simp only [Handler.tickAux, if_true, true_and, if_neg hend, ne_eq, Bool.true_eq_false, false_and, if_false]
  | false =>
    by_cases hd : m = .heat ∧ f.defrost.value = true
    · simp [Handler.tickAux, hd]
    · by_cases hq : m = .heat ∧ 56 ≤ ph ∧ f.compRun.value = true
      · have hoff : f.defrost.value = false := by simpa [hq.1] using hd
        by_cases hr : 599 ≤ run
        · simp [Handler.tickAux, hoff, hq, hr]
        · simp [Handler.tickAux, hoff, hq, hr]
      · simp [Handler.tickAux, hd, hq]

/-- The four machines of the handler's tick work side by side, each on its own two fields (R138 to R141). -/
theorem handler_tick_eq (m : Mode) (f : PlantFilter) (ph : Nat) (coil supply : Option Int) (h : Handler) :
    h.tick m f ph coil supply =
      { h with
        holdActive := (h.tickHold coil).holdActive
        holdCount := (h.tickHold coil).holdCount
        coilFrost := (h.tickFrost m coil).coilFrost
        frostRun := (h.tickFrost m coil).frostRun
        supplyHot := (h.tickHot supply).supplyHot
        hotRun := (h.tickHot supply).hotRun
        auxOn := (h.tickAux m f ph).auxOn
        auxRun := (h.tickAux m f ph).auxRun } := by
  rw [Handler.tick, tickAux_eq m f ph h, tickAux_eq, tickHold_eq]
  exact rfl

/-! ### The outdoor logic's second tick (R147 to R159) -/

/-- A running tick of the outdoor logic: the ramp, then the move, which stops the run where it leads out of the running
states (R151, R153). -/
def Outdoor.runTicked (i : PlantIn) (o : Outdoor) : Outdoor :=
  if ((o.ramp i).moveAfterRamp (rampTarget i o)).isRunning then
    { o.ramp i with comp := (o.ramp i).moveAfterRamp (rampTarget i o) }
  else (o.ramp i).halt .minOff

/-- What a running tick makes of the plant's outdoor logic does not depend on its outputs. -/
theorem runTick_o (i : PlantIn) (p : Plant) : (p.runTick i).o = p.o.runTicked i := by
  unfold Plant.runTick Outdoor.runTicked
  dsimp only
  split
  · exact rfl
  · show Outdoor.halt .minOff (Plant.followValve i.mode _).o = _
    rw [followValve_o]

/-- What a move of the outdoor logic leaves standing: the targets, LOCKOUT and the trip history. -/
structure Outdoor.Stands (o o' : Outdoor) : Prop where
  pendingCt : o'.pendingCt = o.pendingCt
  ct : o'.ct = o.ct
  lockout : o'.lockout = o.lockout
  trips : o'.trips = o.trips

theorem Outdoor.Stands.trans {a b c : Outdoor} (h : a.Stands b) (h' : b.Stands c) : a.Stands c :=
  ⟨h'.pendingCt.trans h.pendingCt, h'.ct.trans h.ct, h'.lockout.trans h.lockout, h'.trips.trans h.trips⟩

theorem runTicked_stands (i : PlantIn) (o : Outdoor) : o.Stands (o.runTicked i) := by
  unfold Outdoor.runTicked
  split <;> exact ⟨rfl, rfl, rfl, rfl⟩

theorem tickDefrost_stands (i : PlantIn) (o : Outdoor) : o.Stands (o.tickDefrost i) := by
  unfold Outdoor.tickDefrost
  split
  · dsimp only
    split
    · split <;> exact ⟨rfl, rfl, rfl, rfl⟩
    · exact ⟨rfl, rfl, rfl, rfl⟩
  · split <;> exact ⟨rfl, rfl, rfl, rfl⟩
  · split <;> exact ⟨rfl, rfl, rfl, rfl⟩

theorem tickCompressor_stands (i : PlantIn) (p : Plant) : p.o.Stands (p.tickCompressor i).o := by
  unfold Plant.tickCompressor
  split
  · split
    · have hstart : p.o.Stands (p.start i).o := ⟨rfl, rfl, rfl, rfl⟩
      rw [runTick_o]
      exact hstart.trans (runTicked_stands i _)
    · exact ⟨rfl, rfl, rfl, rfl⟩
  · exact ⟨rfl, rfl, rfl, rfl⟩
  · exact ⟨rfl, rfl, rfl, rfl⟩
  all_goals
    rw [runTick_o]
    exact runTicked_stands i p.o

/-- The outdoor station's tick leaves its targets and LOCKOUT, and its trips are a second older (R159). -/
theorem outdoorTick_stands (s : State) :
    Outdoor.Stands { s.outdoor with trips := ageTrips s.outdoor.trips } (outdoorTick s).outdoor := by
  have hd (p : Plant) : p.o.Stands (p.tickDefrost s.plantIn).o := by
    rw [(plant_tickDefrost_spec s.plantIn p).1]
    exact tickDefrost_stands _ _
  exact (hd { s.plant with o := { s.outdoor with trips := ageTrips s.outdoor.trips } }).trans
    (tickCompressor_stands s.plantIn _)

/-! ### O28 -/

/-- A ring is emptied by the miss that brings the count to three (R68). -/
theorem emptiesRing_of_miss {s : State} {ch : Channel} (hm : (s.meas.channel ch).misses = 2)
    (hc : ((consumed s).meas.channel ch).misses = 3) : emptiesRing ch s = true := by
  simp [emptiesRing, hm, hc]

/-- Settles O28: the channels by `consume`'s two cases, and the frames role by role. -/
theorem secondTickConsumesBothChannels : Obligations.SecondTickConsumesBothChannels := by
  intro s hrun s1 u
  refine ⟨fun hchk => ?_, fun hchk => ?_⟩
  · have hst : ¬ s.started = true := by simp [State.started, hchk]
    show Host.Outcome.next (secondTick s) = _
    rw [secondTick, if_pos hrun, if_neg hst]
    exact rfl
  · have ht : Ticking s := ⟨hrun, hchk⟩
    refine ⟨_, exec_secondTick_of_ticking ht, ?_, roleTick_zone, roleTick_handler, roleTick_outdoor, ?_, ?_, ?_,
      roleTick_frame s u rfl⟩
    · intro ch c conv v
      have hchan : (roleTick (consumed s)).meas.channel ch = c.consume conv := by
        rw [roleTick_meas, consumed_channel]
      rw [hchan]
      have hv : c.taken conv = v := rfl
      clear_value v
      cases v with
      | some x => exact ⟨consume_of_some hv, nofun⟩
      | none =>
        rw [consume_of_none hv]
        refine ⟨rfl, fun _ hm => ?_⟩
        have hmiss : ((consumed s).meas.channel ch).misses = 3 := by
          rw [consumed_channel, consume_of_none hv]
          exact (congrArg (fun n => min 3 (n + 1)) hm)
        have hempty : (if 2 ≤ c.misses then [] else c.ring) = [] := if_pos (Nat.le_of_eq hm.symm)
        refine ⟨congrArg Host.Outcome.next (secondTickFor_of_ticking ht (emptiesRing_of_miss hm hmiss)), hempty, ?_⟩
        rw [hempty]
        exact rfl
    · intro hr
      rw [roleTick_of_zone hr]
      exact ⟨rfl, rfl, (Zone.tick_frame ..).1⟩
    · intro hr
      rw [roleTick_of_handler hr]
      have hh : (handlerTick (consumed s)).handler =
          s.handler.tick s.mode s.health.plant s.health.view.peakh.toNat (consumed s).tempA (consumed s).tempB := rfl
      rw [hh, handler_tick_eq]
      exact ⟨rfl, rfl, rfl, rfl, rfl, rfl, rfl, rfl⟩
    · intro hr
      rw [roleTick_of_outdoor hr]
      obtain ⟨hout, htimers⟩ := outdoorTick_moved (consumed s)
      obtain ⟨hp, hct, hl, -⟩ := outdoorTick_stands (consumed s)
      exact ⟨hout, htimers, hp, hct, hl⟩

end Sys2Proof.Machine


/-! O31. The handler's second tick on the readings of that tick, and the rows that name it. -/

namespace Sys2Proof.Machine

/-! ### The handler's tick at a station (R138 to R141) -/

/-- The tick qualifies for a change of COIL_FROST (R139). -/
theorem frostQualifies_iff (flag : Bool) (m : Mode) (coil : Option Int) :
    frostQualifies flag m coil = true ↔
      if flag = true then atLeast coil 70 = true else (m = .cool ∨ m = .dry) ∧ atMost coil 10 = true := by
  cases flag with
  | true => exact Iff.rfl
  | false =>
    show (m.coolingSide && atMost coil 10) = true ↔ (m = .cool ∨ m = .dry) ∧ atMost coil 10 = true
    rw [Bool.and_eq_true, Mode.coolingSide_iff]

/-- The tick qualifies for a change of SUPPLY_HOT (R140). -/
theorem hotQualifies_iff (flag : Bool) (supply : Option Int) :
    hotQualifies flag supply = true ↔
      if flag = true then atMost supply 500 = true else atLeast supply 550 = true := by
  cases flag <;> exact Iff.rfl

/-- A watch filter's flag and run after a tick whose qualification is `Q` (R139, R140). -/
theorem watchFlag_of_iff {flag q : Bool} {run full : Nat} {Q : Prop} [Decidable Q] (h : q = true ↔ Q) :
    watchFlag flag run (full + 1) q =
      (if Q ∧ full ≤ run then !flag else flag, if Q ∧ run < full then run + 1 else 0) := by
  rw [watchFlag_eq]
  simp only [h]

/-- What the handler's tick makes of its logic, on the readings of that tick. -/
theorem handlerTick_handler (s : State) :
    (handlerTick (consumed s)).handler =
      s.handler.tick s.coll.state.mode s.health.plant s.health.view.peakh.toNat (consumed s).tempA (consumed s).tempB := rfl

/-- A row that names a handler's tick is that tick. -/
theorem tickedAs_of_handler {s : State} {row : Instr} {c : Bool} (ht : Ticking s) (hr : s.role = .handler)
    (hx : exec row s = .next (secondTickFor c s)) (hc : c = true) :
    exec row s = .next (handlerTick (consumed s)) ∧ TickedAs row s (handlerTick (consumed s)) := by
  rw [secondTickFor_of_ticking ht hc, roleTick_of_handler hr] at hx
  have hs := exec_secondTick_of_ticking ht
  rw [roleTick_of_handler hr] at hs
  exact ⟨hx, hx, hs⟩

/-- The heater is on, or its request for on is held, once it has been asked on (R169). -/
theorem request_on (w : Switched) (us : Nat) : (w.request true us).on = true ∨ (w.request true us).held = some true := by
  unfold Switched.request
  split
  · next h => exact .inl h.symm
  · split
    · exact .inr rfl
    · exact .inl rfl

/-- Settles O31: the tick's four machines by their equations, and each row from the change that it names. -/
theorem handlerTicksChangeItsFlags : Obligations.HandlerTicksChangeItsFlags := by
  intro s ht hr coil supply h heat defrost peak asks holdEnds frost hot auxEnds auxStarts
  have hsec : exec .secondTick s = .next (handlerTick (consumed s)) := by
    rw [exec_secondTick_of_ticking ht, roleTick_of_handler hr]
  have htick : (handlerTick (consumed s)).handler =
      h.tick s.coll.state.mode s.health.plant peak coil supply := handlerTick_handler s
  rw [handler_tick_eq] at htick
  have hhold := tickHold_eq coil h
  have haux := tickAux_eq s.coll.state.mode s.health.plant peak h
  have hfrost := watchFlag_of_iff (flag := h.coilFrost) (run := h.frostRun) (full := 29)
    (frostQualifies_iff h.coilFrost s.coll.state.mode coil)
  have hhot := watchFlag_of_iff (flag := h.supplyHot) (run := h.hotRun) (full := 9) (hotQualifies_iff h.supplyHot supply)
  have hActive : (handlerTick (consumed s)).handler.holdActive = (h.holdActive && !decide holdEnds) := by
    rw [htick]; exact congrArg Handler.holdActive hhold
  have hCount : (handlerTick (consumed s)).handler.holdCount =
      (if holdEnds then 0 else if h.holdActive = true then h.holdCount + 1 else h.holdCount) := by
    rw [htick]; exact congrArg Handler.holdCount hhold
  have hCoil : (handlerTick (consumed s)).handler.coilFrost =
      (if frost ∧ 29 ≤ h.frostRun then !h.coilFrost else h.coilFrost) := by
    rw [htick]; exact congrArg Prod.fst hfrost
  have hCoilRun : (handlerTick (consumed s)).handler.frostRun =
      (if frost ∧ h.frostRun < 29 then h.frostRun + 1 else 0) := by
    rw [htick]; exact congrArg Prod.snd hfrost
  have hSupply : (handlerTick (consumed s)).handler.supplyHot =
      (if hot ∧ 9 ≤ h.hotRun then !h.supplyHot else h.supplyHot) := by
    rw [htick]; exact congrArg Prod.fst hhot
  have hSupplyRun : (handlerTick (consumed s)).handler.hotRun =
      (if hot ∧ h.hotRun < 9 then h.hotRun + 1 else 0) := by
    rw [htick]; exact congrArg Prod.snd hhot
  have hOn : (handlerTick (consumed s)).handler.auxOn =
      (if auxEnds then false else if auxStarts then true else h.auxOn) := by
    rw [htick]; exact congrArg Handler.auxOn haux
  have hRun : (handlerTick (consumed s)).handler.auxRun =
      (if h.auxOn = true then (if auxEnds then 0 else h.auxRun)
      else if asks ∧ ¬ auxStarts then h.auxRun + 1 else 0) := by
    rw [htick]; exact congrArg Handler.auxRun haux
  refine ⟨⟨_, hsec, hActive, hCount, hCoil, hCoilRun, hSupply, hSupplyRun, hOn, hRun, rfl, intervalAfter_comm ..⟩,
    fun hends => ?_, fun hq hfull => ?_, fun hq hfull => ?_, fun hoff hasks hfull hnd => ?_⟩
  · have hdone : (handlerTick (consumed s)).handler.holdActive = false := by
      rw [hActive, decide_eq_true hends, Bool.not_true, Bool.and_false]
    have hrow : endsHold s = true := by simp [endsHold, hr, hdone, show s.handler.holdActive = true from hends.1]
    obtain ⟨hx, hrows⟩ := tickedAs_of_handler ht hr (row := .coldBlowHoldEnd) rfl hrow
    refine ⟨_, hx, hrows, hdone, ?_⟩
    rw [htick]
  · have hturn := hCoil.trans (if_pos ⟨hq, hfull⟩)
    have hrow : changesFrost s = true := by
      refine decide_eq_true ⟨hr, ?_⟩
      rw [hturn]
      exact Bool.not_ne_self _
    obtain ⟨hx, hrows⟩ := tickedAs_of_handler ht hr (row := .coilFrostChange) rfl hrow
    exact ⟨_, hx, hrows, hturn, hCoilRun.trans (if_neg fun hlt => Nat.not_lt.mpr hfull hlt.2)⟩
  · have hturn := hSupply.trans (if_pos ⟨hq, hfull⟩)
    have hrow : changesHot s = true := by
      refine decide_eq_true ⟨hr, ?_⟩
      rw [hturn]
      exact Bool.not_ne_self _
    obtain ⟨hx, hrows⟩ := tickedAs_of_handler ht hr (row := .supplyHotChange) rfl hrow
    exact ⟨_, hx, hrows, hturn, hSupplyRun.trans (if_neg fun hlt => Nat.not_lt.mpr hfull hlt.2)⟩
  · have hno : ¬ auxEnds := fun he => Bool.false_ne_true (hoff.symm.trans he.1)
    have hstarts : auxStarts := ⟨hoff, .inr ⟨hasks, hfull⟩⟩
    have hstart : (handlerTick (consumed s)).handler.auxOn = true := by rw [hOn, if_neg hno, if_pos hstarts]
    have hzero : (handlerTick (consumed s)).handler.auxRun = 0 := by
      rw [hRun, if_neg (by rw [hoff]; exact Bool.false_ne_true), if_neg fun hx => hx.2 hstarts]
    have hdef : s.health.plant.defrost.value = false := Bool.not_eq_true _ ▸ hnd
    have hrow : bringsAux s = true := by
      simp [bringsAux, hr, hstart, hdef, show s.handler.auxOn = false from hoff]
    obtain ⟨hx, hrows⟩ := tickedAs_of_handler ht hr (row := .auxHeatOn) rfl hrow
    refine ⟨_, hx, hrows, hstart, hzero, ?_⟩
    have hout : (handlerTick (consumed s)).out.heater =
        s.out.heater.request (handlerTick (consumed s)).handler.auxOn (consumed s).timers.heater.us := rfl
    rw [hout, hstart]
    exact request_on _ _

end Sys2Proof.Machine


/-! SUPPORT and O32. The outdoor station's second tick: the defrost machine first, then the compressor machine on what it
left, each of which asks the fan. -/

namespace Sys2Proof.Machine

/-! ### The defrost machine's move (R156, R157) -/

/-- The defrost machine's tick, whole: it enters DEFROST at the thirtieth tick in a row that qualifies, melts to a warm
coil or to 600 s, and drains for 30 s. It moves its own four fields, and nothing else of the outdoor logic. -/
theorem tickDefrost_eq {i : PlantIn} {o : Outdoor} {q : Prop} [Decidable q]
    (hq : defrostQualifies i o.speed (o.accumulated i.mode) = true ↔ q) :
    o.tickDefrost i =
      { o with
        defrost :=
          if o.defrost = .normal ∧ q ∧ 29 ≤ o.entryCount then .defrost
          else if o.defrost = .defrost ∧ (atLeast i.coil 120 = true ∨ 599 ≤ o.phase) then .drip
          else if o.defrost = .drip ∧ 29 ≤ o.phase then .normal
          else o.defrost
        accumulator :=
          if o.defrost = .defrost ∧ (atLeast i.coil 120 = true ∨ 599 ≤ o.phase) then 0
          else if o.defrost = .normal then o.accumulated i.mode else o.accumulator
        entryCount :=
          if o.defrost = .normal then (if q ∧ o.entryCount < 29 then o.entryCount + 1 else 0) else o.entryCount
        phase :=
          if (o.defrost = .normal ∧ q ∧ 29 ≤ o.entryCount) ∨
              (o.defrost = .defrost ∧ (atLeast i.coil 120 = true ∨ 599 ≤ o.phase)) ∨
              (o.defrost = .drip ∧ 29 ≤ o.phase) then 0
          else if o.defrost = .normal then o.phase else o.phase + 1 } := by
  unfold Outdoor.tickDefrost
  simp only [hq]
  obtain ⟨_, _, _, _, _, _, _, _, st, _, count, phase, _, _⟩ := o
  cases st with
  | normal =>
    by_cases hQ : q
    · by_cases hc : 29 ≤ count
      · simp [hQ, hc, Outdoor.enterDefrost]
      · simp [hQ, hc, Nat.not_le.mp hc]
    · simp [hQ]
  | defrost =>
    by_cases hm : atLeast i.coil 120 = true ∨ 599 ≤ phase
    · simp [hm]
    · simp [hm]
  | drip =>
    by_cases hp : 29 ≤ phase
    · simp [hp]
    · simp [hp]

/-- The defrost machine does not read the trip history. -/
theorem tickDefrost_withTrips (i : PlantIn) (o : Outdoor) (trips : List Nat) :
    Outdoor.tickDefrost i { o with trips := trips } = { o.tickDefrost i with trips := trips } := by
  rw [tickDefrost_eq (o := o) Iff.rfl, tickDefrost_eq (o := { o with trips := trips }) Iff.rfl]
  exact rfl

/-! ### Requests (R154, R155, R169) -/

/-- A second request for the same level, under the interval timer that the first one left, changes nothing (R169). -/
theorem request_twice (level : Bool) (w : Switched) (t : Timer) :
    (w.request level t.us).request level (intervalAfter w (w.request level t.us) t).us = w.request level t.us := by
  by_cases hl : level = w.on
  · simp [Switched.request, hl]
  · by_cases ht : t.us < Config.intervalUs
    · simp [Switched.request, intervalAfter, hl, ht]
    · simp [Switched.request, hl, ht]

/-- The fan asked twice for what the machines want is the fan asked once. -/
theorem requestFan_twice (p : Plant) : p.requestFan.requestFan = p.requestFan := by
  have hfan := request_twice p.o.fanWanted p.out.fan p.t.fan
  have htwice : p.requestFan.requestFan =
      { p with
        out := { p.out with
          fan := (p.out.fan.request p.o.fanWanted p.t.fan.us).request p.o.fanWanted
            (intervalAfter p.out.fan (p.out.fan.request p.o.fanWanted p.t.fan.us) p.t.fan).us }
        t := { p.t with
          fan := intervalAfter (p.out.fan.request p.o.fanWanted p.t.fan.us)
            ((p.out.fan.request p.o.fanWanted p.t.fan.us).request p.o.fanWanted
              (intervalAfter p.out.fan (p.out.fan.request p.o.fanWanted p.t.fan.us) p.t.fan).us)
            (intervalAfter p.out.fan (p.out.fan.request p.o.fanWanted p.t.fan.us) p.t.fan) } } := rfl
  rw [htwice, hfan, intervalAfter_self]
  exact rfl

/-- An output that is asked off is off, or holds the request (R169). -/
theorem request_off (w : Switched) (us : Nat) :
    (w.request false us).on = false ∨ (w.request false us).held = some false := by
  unfold Switched.request
  split
  · next h => exact .inl h.symm
  · split
    · exact .inr rfl
    · exact .inl rfl

/-- A switched output that is asked for a position, where one is wanted (R154). -/
def Switched.follow (want : Option Bool) (us : Nat) (w : Switched) : Switched :=
  match want with
  | some x => w.request x us
  | none => w

theorem followValve_valve (m : Mode) (p : Plant) :
    (p.followValve m).out.valve = p.out.valve.follow (valveWanted p.o.defrost m) p.t.valve.us := by
  unfold Plant.followValve Switched.follow
  cases valveWanted p.o.defrost m <;> rfl

theorem followValve_valveTimer (m : Mode) (p : Plant) :
    (p.followValve m).t.valve = intervalAfter p.out.valve (p.followValve m).out.valve p.t.valve := by
  unfold Plant.followValve
  cases valveWanted p.o.defrost m with
  | some x => rfl
  | none => exact (intervalAfter_self _ _).symm

theorem followValve_fan (m : Mode) (p : Plant) :
    (p.followValve m).out.fan = p.out.fan ∧ (p.followValve m).t.fan = p.t.fan := by
  unfold Plant.followValve
  cases valveWanted p.o.defrost m <;> exact ⟨rfl, rfl⟩

/-! ### A running tick (R151 to R155) -/

/-- A running tick takes `p` to `q`: the outdoor logic ramps and moves, the fan is asked for what the machines then want,
the valve for the position of the defrost state, and the channel carries the speed's duty or stops. -/
structure Plant.Ran (i : PlantIn) (p q : Plant) : Prop where
  o : q.o = p.o.runTicked i
  fan : q.out.fan = p.out.fan.request q.o.fanWanted p.t.fan.us
  fanTimer : q.t.fan = intervalAfter p.out.fan q.out.fan p.t.fan
  valve : q.out.valve = p.out.valve.follow (valveWanted p.o.defrost i.mode) p.t.valve.us
  valveTimer : q.t.valve = intervalAfter p.out.valve q.out.valve p.t.valve
  tripHold : q.out.tripHold = p.out.tripHold
  compressor : q.out.compressor =
    if q.o.comp.isRunning then (p.out.writeCompressor (10 * q.o.speed)).compressor else ⟨0, 0, false⟩

/-- A running tick ends in a request of the fan, and asking it again changes nothing. -/
theorem runTick_requestFan (i : PlantIn) (p : Plant) : (p.runTick i).requestFan = p.runTick i := by
  unfold Plant.runTick
  dsimp only
  split
  · exact requestFan_twice _
  · exact requestFan_twice _

theorem runTick_ran (i : PlantIn) (p : Plant) : p.Ran i (p.runTick i) := by
  have hvalve := followValve_valve i.mode
    { p with o := p.o.ramp i, out := p.out.writeCompressor (10 * (p.o.ramp i).speed) }
  have htimer := followValve_valveTimer i.mode
    { p with o := p.o.ramp i, out := p.out.writeCompressor (10 * (p.o.ramp i).speed) }
  obtain ⟨hfan, hfanTimer⟩ := followValve_fan i.mode
    { p with o := p.o.ramp i, out := p.out.writeCompressor (10 * (p.o.ramp i).speed) }
  unfold Plant.runTick
  dsimp only
  by_cases hnext : ((p.o.ramp i).moveAfterRamp (rampTarget i p.o)).isRunning = true
  · rw [if_pos hnext]
    refine ⟨(if_pos hnext).symm, ?_, ?_, hvalve, htimer, followValve_tripHold .., ?_⟩
    · exact congrArg₂ (fun (w : Switched) (t : Timer) => w.request _ t.us) hfan hfanTimer
    · exact congrArg₂ (fun (w : Switched) (t : Timer) => intervalAfter w _ t) hfan hfanTimer
    · exact (followValve_compressor ..).trans (if_pos hnext).symm
  · rw [if_neg hnext]
    refine ⟨(congrArg (Outdoor.halt .minOff) (followValve_o ..)).trans (if_neg hnext).symm, ?_, ?_, hvalve, htimer, followValve_tripHold .., rfl⟩
    · exact congrArg₂ (fun (w : Switched) (t : Timer) => w.request _ t.us) hfan hfanTimer
    · exact congrArg₂ (fun (w : Switched) (t : Timer) => intervalAfter w _ t) hfan hfanTimer

/-- The speed after one step toward the ramp target (R151). -/
theorem rampStep_eq (target speed : Nat) :
    rampStep target speed = if speed < target then min (speed + 4) target else max (speed - 8) target := by
  unfold rampStep
  split
  · rfl
  · split
    · rfl
    · omega

/-- The outdoor logic after a running tick that goes on (R151). -/
theorem runTicked_goesOn {i : PlantIn} {o : Outdoor}
    (h : ((o.ramp i).moveAfterRamp (rampTarget i o)).isRunning = true) :
    o.runTicked i = { o.ramp i with comp := (o.ramp i).moveAfterRamp (rampTarget i o) } := if_pos h

/-- The outdoor logic after a running tick that stops the run (R151, R152, R153). -/
theorem runTicked_stops {i : PlantIn} {o : Outdoor} (h : (o.ramp i).moveAfterRamp (rampTarget i o) = .minOff) :
    o.runTicked i = (o.ramp i).halt .minOff := if_neg (by rw [h]; exact Bool.false_ne_true)

/-! ### The tick at a station (R151, R156, R159) -/

/-- The plant after the trips have aged and the defrost machine has moved, before the compressor machine acts. -/
def defrosted (s : State) : Plant :=
  ({ (consumed s).plant with o := { s.outdoor with trips := ageTrips s.outdoor.trips } } : Plant).tickDefrost
    (consumed s).plantIn

/-- The fan after the defrost machine's move, which asks for it where the defrost state changes (R155, R157). -/
def fanDefrosted (s : State) : Switched :=
  if defrostAfterTick s = s.outdoor.defrost then s.out.fan
  else s.out.fan.request (s.outdoor.comp.isRunning && decide (defrostAfterTick s = .normal)) (consumed s).timers.fan.us

theorem defrosted_o (s : State) :
    (defrosted s).o =
      { s.outdoor.tickDefrost (consumed s).plantIn with trips := ageTrips s.outdoor.trips } :=
  (plant_tickDefrost_spec ..).1.trans (tickDefrost_withTrips ..)

theorem defrosted_defrost (s : State) : (defrosted s).o.defrost = defrostAfterTick s := by
  rw [defrosted_o]
  exact rfl

/-- The defrost machine leaves the compressor machine as it was. -/
theorem defrosted_machine (s : State) :
    (defrosted s).o.comp = s.outdoor.comp ∧ (defrosted s).o.speed = s.outdoor.speed ∧
      (defrosted s).o.ct = s.outdoor.ct ∧ (defrosted s).o.offTimer = s.outdoor.offTimer ∧
      (defrosted s).o.lockout = s.outdoor.lockout ∧ (defrosted s).o.side = s.outdoor.side ∧
      (defrosted s).o.runTimer = s.outdoor.runTimer ∧ (defrosted s).o.frostStop = s.outdoor.frostStop ∧
      (defrosted s).o.trips = ageTrips s.outdoor.trips := by
  rw [defrosted_o, tickDefrost_eq Iff.rfl]
  exact ⟨rfl, rfl, rfl, rfl, rfl, rfl, rfl, rfl, rfl⟩

/-- The defrost machine's request of the fan, on the outputs and the interval timers (R155). -/
theorem defrosted_outputs (s : State) :
    (defrosted s).out = { s.out with fan := fanDefrosted s } ∧
      (defrosted s).t =
        { (consumed s).timers with fan := intervalAfter s.out.fan (fanDefrosted s) (consumed s).timers.fan } := by
  have hspec := (plant_tickDefrost_spec (consumed s).plantIn
    { (consumed s).plant with o := { s.outdoor with trips := ageTrips s.outdoor.trips } }).2
  rw [tickDefrost_withTrips] at hspec
  have hwanted : Outdoor.fanWanted
      { s.outdoor.tickDefrost (consumed s).plantIn with trips := ageTrips s.outdoor.trips } =
        (s.outdoor.comp.isRunning && decide (defrostAfterTick s = .normal)) :=
    congrArg (fun c : CompState => c.isRunning && _) (tickDefrost_fields (consumed s).plantIn s.outdoor).1
  by_cases hd : defrostAfterTick s = s.outdoor.defrost
  · obtain ⟨hout, htimers⟩ := (if_pos hd ▸ hspec :)
    rw [fanDefrosted, if_pos hd, intervalAfter_self]
    exact ⟨hout, htimers⟩
  · obtain ⟨hout, htimers⟩ := (if_neg hd ▸ hspec :)
    rw [hwanted] at hout htimers
    rw [fanDefrosted, if_neg hd]
    exact ⟨hout, htimers⟩

/-- The outdoor station's tick runs the compressor machine on what the defrost machine left, and asks the fan (R151,
R155). -/
theorem outdoorTick_plant (s : State) :
    (outdoorTick (consumed s)).plant = ((defrosted s).tickCompressor (consumed s).plantIn).requestFan := rfl

/-- A tick in a running state (R151). -/
theorem outdoorTick_runs {s : State} (h : s.outdoor.comp.isRunning = true) :
    (defrosted s).Ran (consumed s).plantIn (outdoorTick (consumed s)).plant := by
  have hcomp := (defrosted_machine s).1
  rw [outdoorTick_plant, Plant.tickCompressor, hcomp]
  cases hc : s.outdoor.comp with
  | starting => exact (runTick_requestFan _ _).symm ▸ runTick_ran _ _
  | running => exact (runTick_requestFan _ _).symm ▸ runTick_ran _ _
  | stoppingMinRun => exact (runTick_requestFan _ _).symm ▸ runTick_ran _ _
  | stopped => rw [hc] at h; cases h
  | minOff => rw [hc] at h; cases h
  | tripped => rw [hc] at h; cases h

/-- A tick that starts the compressor runs it at once (R150, R151). -/
theorem outdoorTick_starts {s : State} (h : s.outdoor.comp = .stopped)
    (hm : (defrosted s).o.mayStart (consumed s).plantIn = true) :
    ((defrosted s).start (consumed s).plantIn).Ran (consumed s).plantIn (outdoorTick (consumed s)).plant := by
  have hcomp := (defrosted_machine s).1.trans h
  rw [outdoorTick_plant, Plant.tickCompressor, hcomp]
  dsimp only
  rw [if_pos hm]
  exact (runTick_requestFan _ _).symm ▸ runTick_ran _ _

/-- A tick of a STOPPED machine that does not start leaves it (R150). -/
theorem outdoorTick_stays {s : State} (h : s.outdoor.comp = .stopped)
    (hm : ¬ (defrosted s).o.mayStart (consumed s).plantIn = true) :
    (outdoorTick (consumed s)).plant = (defrosted s).requestFan := by
  have hcomp := (defrosted_machine s).1.trans h
  rw [outdoorTick_plant, Plant.tickCompressor, hcomp]
  dsimp only
  rw [if_neg hm]

/-- The minimum off time counts, and at 180 s it is over (R153). -/
theorem outdoorTick_minOff {s : State} (h : s.outdoor.comp = .minOff) :
    (outdoorTick (consumed s)).outdoor =
      { (defrosted s).o with
        offTimer := min 180 (s.outdoor.offTimer + 1)
        comp := if 179 ≤ s.outdoor.offTimer then .stopped else .minOff } := by
  have hcomp := (defrosted_machine s).1.trans h
  have hoff := (defrosted_machine s).2.2.2.1
  show ((defrosted s).tickCompressor (consumed s).plantIn).o = _
  rw [Plant.tickCompressor, hcomp]
  simp only [hoff, show (180 : Nat) = 179 + 1 from rfl, Nat.add_le_add_iff_right]

/-- In TRIPPED the minimum off time counts (R153). -/
theorem outdoorTick_tripped {s : State} (h : s.outdoor.comp = .tripped) :
    (outdoorTick (consumed s)).outdoor =
      { (defrosted s).o with offTimer := min 180 (s.outdoor.offTimer + 1) } := by
  have hcomp := (defrosted_machine s).1.trans h
  have hoff := (defrosted_machine s).2.2.2.1
  show ((defrosted s).tickCompressor (consumed s).plantIn).o = _
  rw [Plant.tickCompressor, hcomp]
  simp only [hoff]

/-- A row that names an outdoor station's tick is that tick. -/
theorem tickedAs_of_outdoor {s : State} {row : Instr} {c : Bool} (ht : Ticking s) (hr : s.role = .outdoor)
    (hx : exec row s = .next (secondTickFor c s)) (hc : c = true) :
    exec row s = .next (outdoorTick (consumed s)) ∧ TickedAs row s (outdoorTick (consumed s)) := by
  rw [secondTickFor_of_ticking ht hc, roleTick_of_outdoor hr] at hx
  have hs := exec_secondTick_of_ticking ht
  rw [roleTick_of_outdoor hr] at hs
  exact ⟨hx, hx, hs⟩

/-! ### O32 -/

/-- A frost stop count of 300 stops the run (R152). -/
theorem moveAfterRamp_of_frost {target : Nat} {o : Outdoor} (h : 300 ≤ o.frostStop) :
    o.moveAfterRamp target = .minOff := if_pos h

/-- A run of 120 s with no capacity asked for ends (R151). -/
theorem moveAfterRamp_of_minRun {target : Nat} {o : Outdoor} (hc : o.comp = .running ∨ o.comp = .stoppingMinRun)
    (hct : o.ct = 0) (hd : o.defrost = .normal) (hr : 120 ≤ o.runTimer) : o.moveAfterRamp target = .minOff := by
  unfold Outdoor.moveAfterRamp
  obtain h | h := hc
  · simp [h, hct, hd, hr]
  · simp [h, hct, hd, hr]

/-- A running tick that stops the run leaves the outdoor logic halted, the channel stopped, and the fan asked off (R153,
R155, R165). -/
theorem Plant.Ran.stops {i : PlantIn} {p q : Plant} (h : p.Ran i q)
    (hs : (p.o.ramp i).moveAfterRamp (rampTarget i p.o) = .minOff) :
    q.o = (p.o.ramp i).halt .minOff ∧ q.out.compressor = ⟨0, 0, false⟩ ∧
      (q.out.fan.on = false ∨ q.out.fan.held = some false) := by
  have ho : q.o = (p.o.ramp i).halt .minOff := h.o.trans (runTicked_stops hs)
  have hcomp : q.o.comp = .minOff := congrArg Outdoor.comp ho
  have hrun : ¬ q.o.comp.isRunning = true := by rw [hcomp]; exact Bool.false_ne_true
  have hfan : q.o.fanWanted = false := by rw [Outdoor.fanWanted, hcomp]; exact rfl
  refine ⟨ho, h.compressor.trans (if_neg hrun), ?_⟩
  rw [h.fan, hfan]
  exact request_off _ _

/-- A trip of 3599 s leaves the history (R159). -/
theorem ageTrips_shorter {trips : List Nat} (h : ∃ a ∈ trips, 3599 ≤ a) : (ageTrips trips).length < trips.length := by
  obtain ⟨a, ha, hage⟩ := h
  have hout : ∃ x ∈ trips.map (· + 1), ¬ decide (x < 3600) = true :=
    ⟨a + 1, List.mem_map_of_mem ha, by rw [decide_eq_true_iff]; omega⟩
  exact (List.length_filter_lt_length_iff_exists.mpr hout).trans_eq (List.length_map _)

/-- Settles O32: the two waits by their equations, and the two stops by the move that a running tick makes. -/
theorem outdoorTicksStopTheCompressor : Obligations.OutdoorTicksStopTheCompressor := by
  intro s ht hr
  have hsec : exec .secondTick s = .next (outdoorTick (consumed s)) := by
    rw [exec_secondTick_of_ticking ht, roleTick_of_outdoor hr]
  obtain ⟨hcomp, hspeed, hct, -, -, -, hrun, hfrost, htrips⟩ := defrosted_machine s
  obtain ⟨-, -, hlock, hage⟩ := outdoorTick_stands (consumed s)
  refine ⟨⟨_, hsec, hage, hlock, fun hc => ?_, fun hc => ?_⟩, fun hc hoff => ?_, fun hc hf hn => ?_,
    fun hc hf hct0 hd hn => ?_, fun htrip => ?_⟩
  · rw [outdoorTick_minOff hc]
    exact ⟨rfl, rfl, hspeed⟩
  · rw [outdoorTick_tripped hc]
    exact ⟨hcomp.trans hc, rfl, hspeed⟩
  · have hrow : endsMinOff s = true := decide_eq_true ⟨hr, hc, by omega⟩
    obtain ⟨hx, hrows⟩ := tickedAs_of_outdoor ht hr (row := .minOffEnd) rfl hrow
    refine ⟨_, hx, hrows, ?_⟩
    rw [outdoorTick_minOff hc]
    exact ⟨if_pos hoff, by dsimp only; omega, hspeed⟩
  · have hrow : bringsFrostStop s = true := by
      simp only [bringsFrostStop, hr, hc, hf, decide_true, Bool.and_true]
      exact decide_eq_true (by omega)
    obtain ⟨hx, hrows⟩ := tickedAs_of_outdoor ht hr (row := .frostStop) rfl hrow
    have hcount : 300 ≤ ((defrosted s).o.ramp (consumed s).plantIn).frostStop := by
      have he : ((defrosted s).o.ramp (consumed s).plantIn).frostStop = min 300 ((defrosted s).o.frostStop + 1) :=
        if_pos hf
      omega
    obtain ⟨ho, hchannel, hfan⟩ := (outdoorTick_runs hc).stops (moveAfterRamp_of_frost hcount)
    refine ⟨_, hx, hrows, ?_⟩
    change (outdoorTick (consumed s)).outdoor = _ at ho
    rw [ho]
    exact ⟨rfl, rfl, rfl, rfl, rfl, rfl, rfl, hchannel, hfan⟩
  · have hruns : s.outdoor.comp.isRunning = true := by obtain h | h := hc <;> rw [h] <;> rfl
    have hmove : ((defrosted s).o.ramp (consumed s).plantIn).moveAfterRamp
        (rampTarget (consumed s).plantIn (defrosted s).o) = .minOff := by
      refine moveAfterRamp_of_minRun ?_ (hct.trans hct0) ((defrosted_defrost s).trans hd) ?_
      · exact hcomp.symm ▸ hc
      · show 120 ≤ min 120 ((defrosted s).o.runTimer + 1)
        omega
    obtain ⟨ho, hchannel, hfan⟩ := (outdoorTick_runs hruns).stops hmove
    change (outdoorTick (consumed s)).outdoor = _ at ho
    have hno : bringsFrostStop s = false := by
      obtain hf | hf := hf
      · simp [bringsFrostStop, hf]
      · simp [bringsFrostStop, hf]
    have hrow : bringsNormalStop s = true := by
      simp only [bringsNormalStop, hr, hruns, hno, decide_true, Bool.and_true, Bool.not_false]
      exact decide_eq_true (by rw [ho]; exact rfl)
    obtain ⟨hx, hrows⟩ := tickedAs_of_outdoor ht hr (row := .normalStop) rfl hrow
    refine ⟨_, hx, hrows, ?_⟩
    rw [ho]
    exact ⟨rfl, rfl, rfl, rfl, rfl, rfl, hchannel, hfan⟩
  · have hshort := ageTrips_shorter htrip
    have hrow : expiresTrip s = true := decide_eq_true ⟨hr, hshort⟩
    obtain ⟨hx, hrows⟩ := tickedAs_of_outdoor ht hr (row := .tripAgeExpiry) rfl hrow
    refine ⟨_, hx, hrows, ?_, hlock⟩
    rw [hage]
    exact hshort

end Sys2Proof.Machine


/-! O33 and O34. The phases of a defrost and the compressor's ramp at a second tick, each by the cases of its machine. -/

namespace Sys2Proof.Machine

/-! ### What qualifies a tick for a defrost (R156) -/

/-- The coil is iced over: at -3.0 °C or below, and 6.0 K or more below the air (R156). -/
def icedOver (air coil : Option Int) : Bool :=
  match air, coil with
  | some air, some coil => decide (coil ≤ -30 ∧ coil ≤ air - 60)
  | _, _ => false

theorem defrostQualifies_iff (i : PlantIn) (speed acc : Nat) :
    defrostQualifies i speed acc = true ↔
      (i.mode = .heat ∧ 0 < speed) ∧ (i.param + 2) * 600 ≤ acc ∧ icedOver i.air i.coil = true := by
  obtain ⟨m, f, air, coil, param, trip⟩ := i
  cases air with
  | none => simp [defrostQualifies, icedOver]
  | some a =>
    cases coil with
    | none => simp [defrostQualifies, icedOver]
    | some c => simp [defrostQualifies, icedOver, and_assoc]

/-! ### The move after the ramp (R151, R152) -/

theorem moveAfterRamp_starting {target : Nat} {o : Outdoor} (hc : o.comp = .starting) (hf : o.frostStop < 300) :
    o.moveAfterRamp target =
      if o.speed = target then .running
      else if o.ct = 0 ∧ o.defrost = .normal then (if 120 ≤ o.runTimer then .minOff else .stoppingMinRun)
      else .starting := by
  rw [Outdoor.moveAfterRamp, if_neg (Nat.not_le.mpr hf)]
  simp [hc]

theorem moveAfterRamp_running {target : Nat} {o : Outdoor} (hc : o.comp = .running) (hf : o.frostStop < 300) :
    o.moveAfterRamp target =
      if o.ct = 0 ∧ o.defrost = .normal then (if 120 ≤ o.runTimer then .minOff else .stoppingMinRun)
      else .running := by
  rw [Outdoor.moveAfterRamp, if_neg (Nat.not_le.mpr hf)]
  simp [hc]

theorem moveAfterRamp_stopping {target : Nat} {o : Outdoor} (hc : o.comp = .stoppingMinRun) (hf : o.frostStop < 300) :
    o.moveAfterRamp target =
      if 0 < o.ct then .running
      else if (o.ct = 0 ∧ o.defrost = .normal) ∧ 120 ≤ o.runTimer then .minOff else .stoppingMinRun := by
  rw [Outdoor.moveAfterRamp, if_neg (Nat.not_le.mpr hf)]
  by_cases hct : 0 < o.ct
  · simp [hc, hct]
  · simp [hc, Nat.eq_zero_of_not_pos hct]

/-- A machine that runs moves to a running state or to MIN_OFF (R151). -/
theorem moveAfterRamp_cases (target : Nat) {o : Outdoor} (hr : o.comp.isRunning = true) :
    (o.moveAfterRamp target).isRunning = true ∨ o.moveAfterRamp target = .minOff := by
  by_cases hf : o.frostStop < 300
  · cases hc : o.comp with
    | starting => rw [moveAfterRamp_starting hc hf]; split_ifs <;> simp [CompState.isRunning]
    | running => rw [moveAfterRamp_running hc hf]; split_ifs <;> simp [CompState.isRunning]
    | stoppingMinRun => rw [moveAfterRamp_stopping hc hf]; split_ifs <;> simp [CompState.isRunning]
    | stopped => rw [hc] at hr; cases hr
    | minOff => rw [hc] at hr; cases hr
    | tripped => rw [hc] at hr; cases hr
  · exact .inr (moveAfterRamp_of_frost (Nat.not_lt.mp hf))

/-- The conditions of a start ask for capacity (R150). -/
theorem ct_pos_of_mayStart {i : PlantIn} {o : Outdoor} (h : o.mayStart i = true) : 0 < o.ct := by
  simp only [Outdoor.mayStart, Bool.and_eq_true, decide_eq_true_eq] at h
  exact h.1.1.1.1

/-- A start with no frosted seconds behind it leads into STARTING or RUNNING (R150, R151). -/
theorem start_moves {i : PlantIn} {o : Outdoor} (hm : o.mayStart i = true) (hf : o.frostStop = 0) (target : Nat) :
    ((o.start i.mode).ramp i).moveAfterRamp target =
      if ((o.start i.mode).ramp i).speed = target then .running else .starting := by
  have hcount : ((o.start i.mode).ramp i).frostStop < 300 := by
    show (if i.f.coilFrost.value = true then min 300 (o.frostStop + 1) else 0) < 300
    split <;> omega
  rw [moveAfterRamp_starting rfl hcount]
  have hct : ¬ (((o.start i.mode).ramp i).ct = 0 ∧ ((o.start i.mode).ramp i).defrost = .normal) :=
    fun h => Nat.ne_of_gt (ct_pos_of_mayStart hm) h.1
  simp only [if_neg hct]

/-! ### The compressor machine leaves the defrost machine's counts (R156, R157) -/

theorem runTicked_counts (i : PlantIn) (o : Outdoor) :
    (o.runTicked i).accumulator = o.accumulator ∧ (o.runTicked i).entryCount = o.entryCount := by
  unfold Outdoor.runTicked
  split <;> exact ⟨rfl, rfl⟩

theorem tickCompressor_counts (i : PlantIn) (p : Plant) :
    (p.tickCompressor i).o.accumulator = p.o.accumulator ∧ (p.tickCompressor i).o.entryCount = p.o.entryCount := by
  unfold Plant.tickCompressor
  split
  · split
    · rw [runTick_o]
      exact runTicked_counts i (p.start i).o
    · exact ⟨rfl, rfl⟩
  · exact ⟨rfl, rfl⟩
  · exact ⟨rfl, rfl⟩
  all_goals
    rw [runTick_o]
    exact runTicked_counts i p.o

/-- A run that goes on keeps the phase of its defrost. -/
theorem runTicked_phase {i : PlantIn} {o : Outdoor} (h : (o.runTicked i).comp.isRunning = true) :
    (o.runTicked i).defrost = o.defrost ∧ (o.runTicked i).phase = o.phase := by
  by_cases hm : ((o.ramp i).moveAfterRamp (rampTarget i o)).isRunning = true
  · rw [runTicked_goesOn hm]
    exact ⟨rfl, rfl⟩
  · rw [Outdoor.runTicked, if_neg hm] at h
    cases h

/-- A tick that runs on, or that stops no run, keeps the phase of the defrost (R157). -/
theorem tickCompressor_phase {i : PlantIn} {p : Plant}
    (h : (p.tickCompressor i).o.comp.isRunning = true ∨ p.o.comp.isRunning = false ∧ p.o.frostStop = 0) :
    (p.tickCompressor i).o.defrost = p.o.defrost ∧ (p.tickCompressor i).o.phase = p.o.phase := by
  unfold Plant.tickCompressor at *
  cases hc : p.o.comp with
  | stopped =>
    rw [hc] at h
    dsimp only at h ⊢
    by_cases hm : p.o.mayStart i = true
    · rw [if_pos hm, runTick_o] at h ⊢
      refine runTicked_phase (h.elim id fun hrest => ?_)
      have hstart := start_moves hm hrest.2 (rampTarget i (p.start i).o)
      have hruns : (((p.start i).o.ramp i).moveAfterRamp (rampTarget i (p.start i).o)).isRunning = true := by
        show Outdoor.moveAfterRamp _ ((p.o.start i.mode).ramp i) |>.isRunning
        rw [hstart]
        split <;> rfl
      rw [runTicked_goesOn hruns]
      exact hruns
    · rw [if_neg hm]
      exact ⟨rfl, rfl⟩
  | minOff => exact ⟨rfl, rfl⟩
  | tripped => exact ⟨rfl, rfl⟩
  | starting =>
    rw [hc] at h
    dsimp only at h ⊢
    rw [runTick_o] at h ⊢
    exact runTicked_phase (h.resolve_right fun hx => Bool.noConfusion hx.1)
  | running =>
    rw [hc] at h
    dsimp only at h ⊢
    rw [runTick_o] at h ⊢
    exact runTicked_phase (h.resolve_right fun hx => Bool.noConfusion hx.1)
  | stoppingMinRun =>
    rw [hc] at h
    dsimp only at h ⊢
    rw [runTick_o] at h ⊢
    exact runTicked_phase (h.resolve_right fun hx => Bool.noConfusion hx.1)

/-- A run that stops at a tick leaves NORMAL with no phase timer (R153, R157). -/
theorem Plant.Ran.stopped {i : PlantIn} {p q : Plant} (h : p.Ran i q) (hr : p.o.comp.isRunning = true)
    (hq : q.o.comp.isRunning = false) : (p.o.ramp i).moveAfterRamp (rampTarget i p.o) = .minOff := by
  refine (moveAfterRamp_cases (o := p.o.ramp i) _ hr).resolve_left fun hm => ?_
  rw [h.o, runTicked_goesOn hm] at hq
  exact Bool.noConfusion (hm.symm.trans hq)

/-! ### The fan at a tick (R155, R169) -/

/-- The fan after a running tick, on what the defrost machine's request left (R155). -/
theorem outdoorTick_runs_fan {s : State} (h : s.outdoor.comp.isRunning = true) :
    (outdoorTick (consumed s)).out.fan =
        (fanDefrosted s).request (outdoorTick (consumed s)).outdoor.fanWanted
          (intervalAfter s.out.fan (fanDefrosted s) (consumed s).timers.fan).us ∧
      (outdoorTick (consumed s)).timers.fan =
        intervalAfter (fanDefrosted s) (outdoorTick (consumed s)).out.fan
          (intervalAfter s.out.fan (fanDefrosted s) (consumed s).timers.fan) := by
  have hran := outdoorTick_runs h
  obtain ⟨hout, htimers⟩ := defrosted_outputs s
  have hfan := hran.fan
  have htimer := hran.fanTimer
  rw [hout, htimers] at hfan htimer
  exact ⟨hfan, htimer⟩

/-- A fan whose 2 s have passed comes on at the end of DRIP, and its interval timer starts again (R155, R169). -/
theorem fanDefrosted_of_drained {s : State} (hd : s.outdoor.defrost = .drip) (hn : defrostAfterTick s = .normal)
    (hr : s.outdoor.comp.isRunning = true) (hf : s.out.fan.on = false) (hu : 2000000 ≤ (consumed s).timers.fan.us) :
    fanDefrosted s = ⟨true, none⟩ := by
  have hne : defrostAfterTick s ≠ s.outdoor.defrost := by rw [hd, hn]; exact nofun
  have hi : ¬ (consumed s).timers.fan.us < Config.intervalUs := Nat.not_lt.mpr hu
  rw [fanDefrosted, if_neg hne, hr, hn, Switched.request, hf]
  simp [hi]

/-- Settles O33: the defrost machine's tick whole, and what the compressor machine then leaves of it. -/
theorem defrostRunsItsPhases : Obligations.DefrostRunsItsPhases := by
  intro s ht hr o heats acc iced qualifies enters melts drains
  have hsec : exec .secondTick s = .next (outdoorTick (consumed s)) := by
    rw [exec_secondTick_of_ticking ht, roleTick_of_outdoor hr]
  have hq : defrostQualifies (consumed s).plantIn o.speed (o.accumulated (consumed s).plantIn.mode) = true ↔ qualifies :=
    defrostQualifies_iff ..
  have htick := tickDefrost_eq hq
  have hafter : defrostAfterTick s =
      (if enters then .defrost else if melts then .drip else if drains then .normal else o.defrost) :=
    congrArg Outdoor.defrost htick
  have hphase : (defrosted s).o.phase =
      (if enters ∨ melts ∨ drains then 0 else if o.defrost = .normal then o.phase else o.phase + 1) := by
    rw [defrosted_o]
    exact congrArg Outdoor.phase htick
  obtain ⟨hkeepAcc, hkeepCount⟩ := tickCompressor_counts (consumed s).plantIn (defrosted s)
  have hAcc : (outdoorTick (consumed s)).outdoor.accumulator =
      (if melts then 0 else if o.defrost = .normal then acc else o.accumulator) := by
    refine hkeepAcc.trans ?_
    rw [defrosted_o]
    exact congrArg Outdoor.accumulator htick
  have hCount : (outdoorTick (consumed s)).outdoor.entryCount =
      (if o.defrost = .normal then (if qualifies ∧ o.entryCount < 29 then o.entryCount + 1 else 0)
        else o.entryCount) := by
    refine hkeepCount.trans ?_
    rw [defrosted_o]
    exact congrArg Outdoor.entryCount htick
  obtain ⟨hcomp, -, -, -, -, -, -, hfrost, -⟩ := defrosted_machine s
  have hkept : (outdoorTick (consumed s)).outdoor.comp.isRunning = true ∨ o.comp.isRunning = false ∧ o.frostStop = 0 →
      (outdoorTick (consumed s)).outdoor.defrost = defrostAfterTick s ∧
        (outdoorTick (consumed s)).outdoor.phase = (defrosted s).o.phase := by
    intro h
    rw [← defrosted_defrost]
    exact tickCompressor_phase (h.imp_right fun hx => ⟨hcomp.symm ▸ hx.1, hfrost.trans hx.2⟩)
  have hstop : o.comp.isRunning = true → (outdoorTick (consumed s)).outdoor.comp.isRunning = false →
      (outdoorTick (consumed s)).outdoor.defrost = .normal ∧ (outdoorTick (consumed s)).outdoor.phase = 0 := by
    intro hruns hstops
    have hran := outdoorTick_runs hruns
    have ho := (hran.stops (hran.stopped (hcomp.symm ▸ hruns) hstops)).1
    exact ⟨congrArg Outdoor.defrost ho, congrArg Outdoor.phase ho⟩
  refine ⟨⟨_, hsec, hAcc, hCount, fun h => ?_, hstop⟩, fun h => ?_, fun h => ?_, fun h => ?_⟩
  · obtain ⟨hd, hp⟩ := hkept h
    exact ⟨hd.trans hafter, hp.trans hphase⟩
  · obtain ⟨hx, hrows⟩ := tickedAs_of_outdoor ht hr (row := .defrostEntry) rfl
      (decide_eq_true ⟨hr, h.1, hafter.trans (if_pos h)⟩)
    refine ⟨_, hx, hrows, ?_⟩
    rw [hCount, if_pos h.1, if_neg fun hc => Nat.not_lt.mpr h.2.2 hc.2]
  · have hno : ¬ enters := fun he => DefrostState.noConfusion (h.1.symm.trans he.1)
    obtain ⟨hx, hrows⟩ := tickedAs_of_outdoor ht hr (row := .defrostEnd) rfl
      (decide_eq_true ⟨hr, h.1, hafter.trans ((if_neg hno).trans (if_pos h))⟩)
    exact ⟨_, hx, hrows, hAcc.trans (if_pos h)⟩
  · have hno : ¬ enters := fun he => DefrostState.noConfusion (h.1.symm.trans he.1)
    have hno' : ¬ melts := fun hm => DefrostState.noConfusion (h.1.symm.trans hm.1)
    have hnot : ¬ o.defrost = .normal := fun hn => DefrostState.noConfusion (h.1.symm.trans hn)
    have hnormal : defrostAfterTick s = .normal := hafter.trans ((if_neg hno).trans ((if_neg hno').trans (if_pos h)))
    obtain ⟨hx, hrows⟩ := tickedAs_of_outdoor ht hr (row := .dripEnd) rfl (decide_eq_true ⟨hr, h.1, hnormal⟩)
    refine ⟨_, hx, hrows, hAcc.trans ((if_neg hno').trans (if_neg hnot)),
      fun hruns => (hkept (.inl hruns)).1.trans hnormal, fun hruns hfan hus => ?_⟩
    obtain ⟨hf, htimer⟩ := outdoorTick_runs_fan hruns
    have hdrained := fanDefrosted_of_drained h.1 hnormal hruns hfan hus
    have hstarted : intervalAfter s.out.fan (fanDefrosted s) (consumed s).timers.fan = ⟨true, 0⟩ := by
      rw [hdrained, intervalAfter, hfan]
      exact rfl
    rw [hstarted] at hf htimer
    rw [hdrained] at hf htimer
    cases hruns' : (outdoorTick (consumed s)).outdoor.comp.isRunning with
    | true =>
      have hwant : (outdoorTick (consumed s)).outdoor.fanWanted = true := by
        rw [Outdoor.fanWanted, hruns', (hkept (.inl hruns')).1, hnormal]
        exact rfl
      rw [hwant] at hf
      rw [hf] at htimer ⊢
      exact ⟨rfl, htimer⟩
    | false =>
      have hwant : (outdoorTick (consumed s)).outdoor.fanWanted = false := by
        rw [Outdoor.fanWanted, hruns']
        exact rfl
      rw [hwant] at hf
      rw [hf] at htimer ⊢
      exact ⟨rfl, htimer⟩

/-! ### O34 -/

theorem valveWanted_normal (m : Mode) :
    valveWanted .normal m =
      if m = .cool ∨ m = .dry then some true else if m = .heat then some false else none := by
  cases m <;> rfl

/-- The start conditions (R150), with fan and overflow asked only on the cooling side. -/
theorem mayStart_iff (i : PlantIn) (o : Outdoor) :
    o.mayStart i = true ↔
      0 < o.ct ∧ (i.mode = .cool ∨ i.mode = .dry ∨ i.mode = .heat) ∧ i.trip = false ∧ o.lockout = false ∧
        (i.mode = .cool ∨ i.mode = .dry → i.f.fanRun.value = true ∧ i.f.overflow.value = false) := by
  obtain ⟨m, f, air, coil, param, trip⟩ := i
  cases m <;> simp [Outdoor.mayStart, Mode.active, and_assoc]

theorem sideOf_of_active {m : Mode} (h : m = .cool ∨ m = .dry ∨ m = .heat) :
    sideOf m = if m = .heat then .heating else .cooling := by
  obtain rfl | rfl | rfl := h <;> rfl

/-- The machine after a running tick (R151). -/
theorem Plant.Ran.comp {i : PlantIn} {p q : Plant} (h : p.Ran i q) (hr : p.o.comp.isRunning = true) :
    q.o.comp = (p.o.ramp i).moveAfterRamp (rampTarget i p.o) := by
  rw [h.o]
  obtain hm | hm := moveAfterRamp_cases (o := p.o.ramp i) (rampTarget i p.o) hr
  · rw [runTicked_goesOn hm]
  · rw [runTicked_stops hm, hm]
    exact rfl

/-- The outdoor logic after a running tick that goes on (R151). -/
theorem Plant.Ran.goesOn {i : PlantIn} {p q : Plant} (h : p.Ran i q) (hq : q.o.comp.isRunning = true) :
    q.o = { p.o.ramp i with comp := q.o.comp } := by
  by_cases hm : ((p.o.ramp i).moveAfterRamp (rampTarget i p.o)).isRunning = true
  · have ho := h.o.trans (runTicked_goesOn hm)
    rw [ho]
  · rw [h.o, Outdoor.runTicked, if_neg hm] at hq
    cases hq

/-- The frost stop count after the ramp (R152). -/
theorem ramp_frostStop (i : PlantIn) (o : Outdoor) :
    (o.ramp i).frostStop = if i.f.coilFrost.value = true then min 300 (o.frostStop + 1) else 0 := rfl

/-- The tick that brings the frost stop count to 300 is the one that the row FROST_STOP names (R152). -/
theorem bringsFrostStop_eq {s : State} (hr : s.role = .outdoor) (hc : s.outdoor.comp.isRunning = true) :
    bringsFrostStop s =
      decide ((if s.health.plant.coilFrost.value = true then min 300 (s.outdoor.frostStop + 1) else 0) = 300) := by
  cases hf : s.health.plant.coilFrost.value with
  | false => simp [bringsFrostStop, hf]
  | true => simp [bringsFrostStop, hf, hr, hc]

/-- The ramp target is that of the defrost state and of the capacity target (R151). -/
theorem rampTarget_defrosted (s : State) {o : Outdoor} (hd : o.defrost = defrostAfterTick s)
    (hct : o.ct = s.outdoor.ct) :
    rampTarget (consumed s).plantIn o = rampTarget (consumed s).plantIn (defrosted s).o := by
  rw [rampTarget, rampTarget, hd, hct, defrosted_defrost, (defrosted_machine s).2.2.1]

/-- The fan after the tick, on what the defrost machine's request left (R155). -/
def FanAsked (s t : State) : Prop :=
  t.out.fan = (fanDefrosted s).request t.outdoor.fanWanted
      (intervalAfter s.out.fan (fanDefrosted s) (consumed s).timers.fan).us ∧
    t.timers.fan = intervalAfter (fanDefrosted s) t.out.fan
      (intervalAfter s.out.fan (fanDefrosted s) (consumed s).timers.fan)

/-- The valve after a running tick (R154). -/
def ValveAsked (s t : State) : Prop :=
  t.out.valve = s.out.valve.follow (valveWanted (defrostAfterTick s) s.coll.state.mode) (consumed s).timers.valve.us ∧
    t.timers.valve = intervalAfter s.out.valve t.out.valve (consumed s).timers.valve

theorem outdoorTick_runs_asks {s : State} (h : s.outdoor.comp.isRunning = true) :
    FanAsked s (outdoorTick (consumed s)) ∧ ValveAsked s (outdoorTick (consumed s)) := by
  have hran := outdoorTick_runs h
  obtain ⟨hout, htimers⟩ := defrosted_outputs s
  have hvalve := hran.valve
  have hvalveTimer := hran.valveTimer
  rw [hout, htimers, defrosted_defrost] at hvalve
  rw [hout, htimers] at hvalveTimer
  exact ⟨outdoorTick_runs_fan h, hvalve, hvalveTimer⟩

theorem outdoorTick_starts_asks {s : State} (h : s.outdoor.comp = .stopped)
    (hm : (defrosted s).o.mayStart (consumed s).plantIn = true) :
    FanAsked s (outdoorTick (consumed s)) ∧ ValveAsked s (outdoorTick (consumed s)) := by
  have hran := outdoorTick_starts h hm
  obtain ⟨hout, htimers⟩ := defrosted_outputs s
  have hstart : ((defrosted s).start (consumed s).plantIn).out.fan = (defrosted s).out.fan ∧
      ((defrosted s).start (consumed s).plantIn).out.valve = (defrosted s).out.valve ∧
      ((defrosted s).start (consumed s).plantIn).t = (defrosted s).t ∧
      ((defrosted s).start (consumed s).plantIn).o.defrost = (defrosted s).o.defrost := ⟨rfl, rfl, rfl, rfl⟩
  obtain ⟨hf, hv, htm, hd⟩ := hstart
  have hfan := hran.fan
  have hfanTimer := hran.fanTimer
  have hvalve := hran.valve
  have hvalveTimer := hran.valveTimer
  rw [hf, htm, hout, htimers] at hfan hfanTimer
  rw [hv, htm, hout, htimers, hd, defrosted_defrost] at hvalve
  rw [hv, htm, hout, htimers] at hvalveTimer
  exact ⟨⟨hfan, hfanTimer⟩, hvalve, hvalveTimer⟩

/-- A tick that leaves the machine STOPPED asks the fan, and touches nothing else (R155). -/
theorem outdoorTick_stays_asks {s : State} (h : s.outdoor.comp = .stopped)
    (hm : ¬ (defrosted s).o.mayStart (consumed s).plantIn = true) :
    FanAsked s (outdoorTick (consumed s)) ∧ (outdoorTick (consumed s)).out.compressor = s.out.compressor ∧
      (outdoorTick (consumed s)).out.valve = s.out.valve ∧
      (outdoorTick (consumed s)).timers.valve = (consumed s).timers.valve ∧
      (outdoorTick (consumed s)).outdoor = (defrosted s).o := by
  have hstays := outdoorTick_stays h hm
  obtain ⟨hout, htimers⟩ := defrosted_outputs s
  have ho : (outdoorTick (consumed s)).outdoor = (defrosted s).o := (congrArg Plant.o hstays :)
  have hfan : (outdoorTick (consumed s)).out.fan =
      (defrosted s).out.fan.request (defrosted s).o.fanWanted (defrosted s).t.fan.us :=
    (congrArg (fun p : Plant => p.out.fan) hstays :)
  have hfanTimer : (outdoorTick (consumed s)).timers.fan =
      intervalAfter (defrosted s).out.fan
        ((defrosted s).out.fan.request (defrosted s).o.fanWanted (defrosted s).t.fan.us) (defrosted s).t.fan :=
    (congrArg (fun p : Plant => p.t.fan) hstays :)
  have hcompressor : (outdoorTick (consumed s)).out.compressor = (defrosted s).out.compressor :=
    (congrArg (fun p : Plant => p.out.compressor) hstays :)
  have hvalve : (outdoorTick (consumed s)).out.valve = (defrosted s).out.valve :=
    (congrArg (fun p : Plant => p.out.valve) hstays :)
  have hvalveTimer : (outdoorTick (consumed s)).timers.valve = (defrosted s).t.valve :=
    (congrArg (fun p : Plant => p.t.valve) hstays :)
  rw [← hfan] at hfanTimer
  rw [← ho] at hfan
  rw [hout, htimers] at hfan hfanTimer
  rw [hout] at hcompressor hvalve
  rw [htimers] at hvalveTimer
  exact ⟨⟨hfan, hfanTimer⟩, hcompressor, hvalve, hvalveTimer, ho⟩

/-- The position wanted of the valve, by the defrost state (R154). -/
theorem valveWanted_eq (d : DefrostState) (m : Mode) :
    valveWanted d m =
      match d with
      | .defrost => some true
      | .drip => some false
      | .normal => if m = .cool ∨ m = .dry then some true else if m = .heat then some false else none := by
  cases d with
  | defrost => rfl
  | drip => rfl
  | normal => exact valveWanted_normal m

/-- Settles O34: a running tick by `Plant.Ran`, and a STOPPED machine by the conditions of R150. -/
theorem compressorRampsAndStarts : Obligations.CompressorRampsAndStarts := by
  intro s ht hr f m cap phase target next run frost idle minRun valve u moved movedTimer fanFollows valveAsked
  have hsec : exec .secondTick s = .next (outdoorTick (consumed s)) := by
    rw [exec_secondTick_of_ticking ht, roleTick_of_outdoor hr]
  obtain ⟨hcomp, hspeed, hct, -, hlock, hside, hrun, hfrost, -⟩ := defrosted_machine s
  have hphase : (defrosted s).o.defrost = phase := defrosted_defrost s
  have htarget : rampTarget (consumed s).plantIn (defrosted s).o = target := by
    rw [rampTarget, defrosted_defrost, hct]
    exact rfl
  have hv : valveWanted phase m = valve := valveWanted_eq phase m
  have hmovedTimer : intervalAfter s.out.fan moved u.timers.fan = movedTimer := intervalAfter_comm ..
  have hfan {t : State} (h : FanAsked s t) : fanFollows t := by
    obtain ⟨h1, h2⟩ := h
    change t.out.fan = moved.request _ (intervalAfter s.out.fan moved u.timers.fan).us at h1
    change t.timers.fan = intervalAfter moved t.out.fan (intervalAfter s.out.fan moved u.timers.fan) at h2
    rw [hmovedTimer] at h1 h2
    exact ⟨h1, h2.trans (intervalAfter_comm ..)⟩
  have hvalve {t : State} (h : ValveAsked s t) : valveAsked t := by
    obtain ⟨h1, h2⟩ := h
    change t.out.valve = s.out.valve.follow (valveWanted phase m) u.timers.valve.us at h1
    rw [hv] at h1
    exact ⟨h1, h2.trans (intervalAfter_comm ..)⟩
  refine ⟨fun hc => ?_, fun hc hd hf hs => ?_⟩
  · have hran := outdoorTick_runs hc
    have hmove := hran.comp (hcomp.symm ▸ hc)
    have hrampSpeed : ((defrosted s).o.ramp (consumed s).plantIn).speed = next s.outdoor.speed := by
      show rampStep (rampTarget (consumed s).plantIn (defrosted s).o) (defrosted s).o.speed = _
      rw [htarget, hspeed]
      exact rampStep_eq ..
    have hrampRun : ((defrosted s).o.ramp (consumed s).plantIn).runTimer = run :=
      congrArg (fun n => min 120 (n + 1)) hrun
    have hrampFrost : ((defrosted s).o.ramp (consumed s).plantIn).frostStop = frost := by
      rw [ramp_frostStop, hfrost]
      exact rfl
    have hrampCt : ((defrosted s).o.ramp (consumed s).plantIn).ct = s.outdoor.ct := hct
    have hrampPhase : ((defrosted s).o.ramp (consumed s).plantIn).defrost = phase := hphase
    have hrampComp : ((defrosted s).o.ramp (consumed s).plantIn).comp = s.outdoor.comp := hcomp
    have hle : frost ≤ 300 := by
      show (if f.coilFrost.value = true then min 300 (s.outdoor.frostStop + 1) else 0) ≤ 300
      split <;> omega
    have hstate : (outdoorTick (consumed s)).outdoor.comp =
        (if frost = 300 then .minOff
          else
            match s.outdoor.comp with
            | .starting => if next s.outdoor.speed = target then .running else if idle then minRun else .starting
            | .running => if idle then minRun else .running
            | _ => if 0 < s.outdoor.ct then .running else if idle ∧ 120 ≤ run then .minOff else .stoppingMinRun) := by
      refine hmove.trans ?_
      by_cases h300 : frost = 300
      · rw [if_pos h300, moveAfterRamp_of_frost (by omega)]
      · rw [if_neg h300]
        have hlt : ((defrosted s).o.ramp (consumed s).plantIn).frostStop < 300 := by omega
        cases hs : s.outdoor.comp with
        | starting =>
          rw [moveAfterRamp_starting (hrampComp.trans hs) hlt, hrampSpeed, hrampCt, hrampPhase, hrampRun, htarget]
        | running => rw [moveAfterRamp_running (hrampComp.trans hs) hlt, hrampCt, hrampPhase, hrampRun]
        | stoppingMinRun => rw [moveAfterRamp_stopping (hrampComp.trans hs) hlt, hrampCt, hrampPhase, hrampRun]
        | stopped => rw [hs] at hc; cases hc
        | minOff => rw [hs] at hc; cases hc
        | tripped => rw [hs] at hc; cases hc
    obtain ⟨hasksFan, hasksValve⟩ := outdoorTick_runs_asks hc
    refine ⟨_, hsec, hstate, fun hq => ?_, fun hq => ?_, hfan hasksFan, hvalve hasksValve⟩
    · have ho : (outdoorTick (consumed s)).outdoor =
          { (defrosted s).o.ramp (consumed s).plantIn with comp := (outdoorTick (consumed s)).outdoor.comp } :=
        hran.goesOn hq
      have hchannel : (outdoorTick (consumed s)).out.compressor =
          ((defrosted s).out.writeCompressor (10 * (outdoorTick (consumed s)).outdoor.speed)).compressor :=
        hran.compressor.trans (if_pos hq)
      rw [(defrosted_outputs s).1] at hchannel
      refine ⟨?_, ?_, ?_, ?_, ?_, fun hhold => ?_⟩
      · rw [ho]; exact hrampSpeed
      · rw [ho]; exact hrampRun
      · rw [ho]; exact hrampFrost
      · rw [ho]; exact hside
      · rw [ho]; exact hphase
      · refine hchannel.trans ?_
        rw [Output.writeCompressor, if_neg (by rw [hhold]; exact Bool.false_ne_true)]
        exact rfl
    · have ho : (outdoorTick (consumed s)).outdoor = ((defrosted s).o.ramp (consumed s).plantIn).halt .minOff :=
        (hran.stops (hran.stopped (hcomp.symm ▸ hc) hq)).1
      have hrows : bringsFrostStop s = decide (frost = 300) := bringsFrostStop_eq hr hc
      refine ⟨congrArg Outdoor.comp ho, congrArg Outdoor.speed ho, congrArg Outdoor.offTimer ho, fun hlt => ?_,
        fun h300 => ?_⟩
      · refine (tickedAs_of_outdoor ht hr (row := .normalStop) rfl ?_).1
        rw [bringsNormalStop, hrows, hr, hc, ho, decide_eq_false (Nat.ne_of_lt hlt)]
        exact rfl
      · exact (tickedAs_of_outdoor ht hr (row := .frostStop) rfl (hrows.trans (decide_eq_true h300))).1
  · intro starts
    have hnormal : phase = .normal := tickDefrost_normal _ hd hs
    have hstarts : (defrosted s).o.mayStart (consumed s).plantIn = true ↔ starts := by
      rw [mayStart_iff, hct, hlock]
      exact Iff.rfl
    by_cases hm : (defrosted s).o.mayStart (consumed s).plantIn = true
    · have hran := outdoorTick_starts hc hm
      have htarget' : rampTarget (consumed s).plantIn ((defrosted s).start (consumed s).plantIn).o = target :=
        (rampTarget_defrosted s (defrosted_defrost s) hct).trans htarget
      have hrampSpeed : (((defrosted s).start (consumed s).plantIn).o.ramp (consumed s).plantIn).speed = next 30 := by
        show rampStep (rampTarget (consumed s).plantIn ((defrosted s).start (consumed s).plantIn).o) 30 = _
        rw [htarget']
        exact rampStep_eq ..
      have hmove : (outdoorTick (consumed s)).outdoor.comp = if next 30 = target then .running else .starting := by
        refine (hran.comp rfl).trans ?_
        rw [← hrampSpeed, htarget']
        exact start_moves hm (hfrost.trans hf) target
      have ho : (outdoorTick (consumed s)).outdoor =
          { ((defrosted s).start (consumed s).plantIn).o.ramp (consumed s).plantIn with
            comp := (outdoorTick (consumed s)).outdoor.comp } :=
        hran.goesOn (by
          show (outdoorTick (consumed s)).outdoor.comp.isRunning = true
          rw [hmove]
          split <;> rfl)
      obtain ⟨hasksFan, hasksValve⟩ := outdoorTick_starts_asks hc hm
      refine ⟨_, hsec, fun hst => ⟨hmove, ?_, hran.tripHold, ?_, ?_, hvalve hasksValve⟩,
        fun hst => absurd (hstarts.mp hm) hst, hfan hasksFan⟩
      · rw [ho]; exact hrampSpeed
      · rw [ho]; exact congrArg some (sideOf_of_active hst.2.1)
      · rw [ho]; exact rfl
    · obtain ⟨hasksFan, hchannel, hasksValve, hvalveTimer, ho⟩ := outdoorTick_stays_asks hc hm
      refine ⟨_, hsec, fun hst => absurd (hstarts.mpr hst) hm, fun _ => ⟨?_, ?_, hchannel, hasksValve, hvalveTimer⟩,
        hfan hasksFan⟩
      · rw [ho]; exact hcomp.trans hc
      · rw [ho]; exact hspeed.trans hs

end Sys2Proof.Machine


/-! O35, O36 and O37. A sample of the keys at which one key recognises something does that key's action; the others only take
their sample. -/

namespace Sys2Proof.Machine

/-! ### The debouncer (R78) -/

/-- A level that is recognised is the level of the sample before, and moves the key's state. -/
theorem sample_of_recognised {level : Bool} {k : KeyBlock} (h : k.recognition level ≠ .nothing) :
    (k.sample level).state = keyAfter level k.state ∧ k.recognition level = recognise level k.state := by
  obtain ⟨st, samples⟩ := k
  match samples with
  | [] => exact absurd rfl h
  | [_] => exact absurd rfl h
  | y :: _ :: _ =>
    have hy : level = y := by
      by_contra hne
      exact h (if_neg hne)
    exact ⟨if_pos hy, if_pos hy⟩

theorem keyAfter_of_press {level : Bool} {k : KeyState} (h : recognise level k = .press) :
    keyAfter level k = .pressed := by
  revert h
  cases k <;> cases level <;> decide

theorem keyAfter_of_release {level : Bool} {k : KeyState} (h : recognise level k = .release) :
    keyAfter level k = .released := by
  revert h
  cases k <;> cases level <;> decide

theorem state_of_press {level : Bool} {k : KeyBlock} (h : k.recognition level = .press) :
    (k.sample level).state = .pressed := by
  obtain ⟨hs, hr⟩ := sample_of_recognised (k := k) (level := level) (by rw [h]; exact nofun)
  exact hs.trans (keyAfter_of_press (hr.symm.trans h))

theorem state_of_release {level : Bool} {k : KeyBlock} (h : k.recognition level = .release) :
    (k.sample level).state = .released := by
  obtain ⟨hs, hr⟩ := sample_of_recognised (k := k) (level := level) (by rw [h]; exact nofun)
  exact hs.trans (keyAfter_of_release (hr.symm.trans h))

/-! ### One sample of the three keys (R78 to R82) -/

/-- A key that recognises nothing only takes its sample. -/
theorem sampleUp_of_nothing {level : Bool} {s : State} (h : s.zone.up.recognition level = .nothing) :
    sampleUp level s = { s with zone := { s.zone with up := s.zone.up.sample level } } := by
  simp [sampleUp, h, chordAfter]

theorem sampleDown_of_nothing {level : Bool} {s : State} (h : s.zone.down.recognition level = .nothing) :
    sampleDown level s = { s with zone := { s.zone with down := s.zone.down.sample level } } := by
  simp [sampleDown, h, chordAfter]

theorem sampleMode_of_nothing {level : Bool} {s : State} (h : s.zone.mode.recognition level = .nothing) :
    sampleMode level s = { s with zone := { s.zone with mode := s.zone.mode.sample level } } := by
  simp [sampleMode, h, isShortPress, modeHoldAfter]

/-- What one sample of the keys can move: the zone's settings and debouncers, and the three timers of the keys. -/
theorem sampleKeys_frame (x : KeySample) (s : State) :
    (sampleKeys x s).zone.up = s.zone.up.sample x.up ∧ (sampleKeys x s).zone.down = s.zone.down.sample x.down ∧
      (sampleKeys x s).zone.mode = s.zone.mode.sample x.mode ∧ (sampleKeys x s).timers.keyClock = ⟨true, 0⟩ ∧
      { sampleKeys x s with
        zone := { (sampleKeys x s).zone with
          settings := s.zone.settings, up := s.zone.up, down := s.zone.down, mode := s.zone.mode }
        timers := { (sampleKeys x s).timers with
          keyClock := (elapseTo s.timers.keyClock 16000 s).timers.keyClock
          chord := (elapseTo s.timers.keyClock 16000 s).timers.chord
          modeHold := (elapseTo s.timers.keyClock 16000 s).timers.modeHold } } =
        elapseTo s.timers.keyClock 16000 s := by
  cases hx : x.downFirst with
  | true =>
    rw [sampleKeys, hx]
    exact ⟨rfl, rfl, rfl, rfl, rfl⟩
  | false =>
    rw [sampleKeys, hx]
    exact ⟨rfl, rfl, rfl, rfl, rfl⟩

/-- A sample at which neither Down nor Mode recognises anything is Up's. -/
theorem sampleKeys_upOnly {x : KeySample} {s : State} (hd : s.recognitionAt .down x = .nothing)
    (hm : s.recognitionAt .mode x = .nothing) :
    (sampleKeys x s).zone.settings =
        (if s.recognitionAt .up x = .press ∧ s.receives = true then s.zone.settings.pressUp else s.zone.settings) ∧
      (sampleKeys x s).timers.chord =
        chordAfter (s.recognitionAt .up x) (s.zone.up.sample x.up)
          (if x.downFirst then s.zone.down.sample x.down else s.zone.down) (toKeySample s).timers.chord ∧
      (sampleKeys x s).timers.modeHold = (toKeySample s).timers.modeHold := by
  cases hx : x.downFirst with
  | true =>
    rw [sampleKeys, hx]
    rw [if_pos rfl, sampleMode_of_nothing (s := sampleUp x.up (sampleDown x.down (toKeySample s))) hm,
      sampleDown_of_nothing (s := toKeySample s) hd]
    exact ⟨rfl, rfl, rfl⟩
  | false =>
    rw [sampleKeys, hx]
    rw [if_neg Bool.false_ne_true,
      sampleMode_of_nothing (s := sampleDown x.down (sampleUp x.up (toKeySample s))) hm,
      sampleDown_of_nothing (s := sampleUp x.up (toKeySample s)) hd]
    exact ⟨rfl, rfl, rfl⟩

/-- A sample at which neither Up nor Mode recognises anything is Down's. -/
theorem sampleKeys_downOnly {x : KeySample} {s : State} (hu : s.recognitionAt .up x = .nothing)
    (hm : s.recognitionAt .mode x = .nothing) :
    (sampleKeys x s).zone.settings =
        (if s.recognitionAt .down x = .press ∧ s.receives = true then s.zone.settings.pressDown
          else s.zone.settings) ∧
      (sampleKeys x s).timers.chord =
        chordAfter (s.recognitionAt .down x) (if x.downFirst then s.zone.up else s.zone.up.sample x.up)
          (s.zone.down.sample x.down) (toKeySample s).timers.chord ∧
      (sampleKeys x s).timers.modeHold = (toKeySample s).timers.modeHold := by
  cases hx : x.downFirst with
  | true =>
    rw [sampleKeys, hx]
    rw [if_pos rfl, sampleMode_of_nothing (s := sampleUp x.up (sampleDown x.down (toKeySample s))) hm,
      sampleUp_of_nothing (s := sampleDown x.down (toKeySample s)) hu]
    exact ⟨rfl, rfl, rfl⟩
  | false =>
    rw [sampleKeys, hx]
    rw [if_neg Bool.false_ne_true,
      sampleMode_of_nothing (s := sampleDown x.down (sampleUp x.up (toKeySample s))) hm,
      sampleUp_of_nothing (s := toKeySample s) hu]
    exact ⟨rfl, rfl, rfl⟩

/-- A sample at which neither Up nor Down recognises anything is Mode's. -/
theorem sampleKeys_modeOnly {x : KeySample} {s : State} (hu : s.recognitionAt .up x = .nothing)
    (hd : s.recognitionAt .down x = .nothing) :
    (sampleKeys x s).zone.settings =
        (if isShortPress (s.recognitionAt .mode x) (toKeySample s).timers.modeHold = true then
          s.zone.settings.setSetting s.zone.settings.setting.next
        else s.zone.settings) ∧
      (sampleKeys x s).timers.chord = (toKeySample s).timers.chord ∧
      (sampleKeys x s).timers.modeHold =
        modeHoldAfter (s.recognitionAt .mode x) s.receives (toKeySample s).timers.modeHold := by
  cases hx : x.downFirst with
  | true =>
    rw [sampleKeys, hx]
    rw [if_pos rfl, sampleUp_of_nothing (s := sampleDown x.down (toKeySample s)) hu,
      sampleDown_of_nothing (s := toKeySample s) hd]
    exact ⟨rfl, rfl, rfl⟩
  | false =>
    rw [sampleKeys, hx]
    rw [if_neg Bool.false_ne_true, sampleDown_of_nothing (s := sampleUp x.up (toKeySample s)) hd,
      sampleUp_of_nothing (s := toKeySample s) hu]
    exact ⟨rfl, rfl, rfl⟩

theorem exec_keySample {s : State} (x : KeySample) (h : s.timers.keyClock.running = true) :
    exec (.keySample x) s = .next (sampleKeys x s) := congrArg Host.Outcome.next (if_pos h)

/-- Settles O35: the debouncer by the number of samples it holds, and the rest from a sample that recognises nothing. -/
theorem keySampleDebounces : Obligations.KeySampleDebounces := by
  intro s x hrun s1 after
  have hafter (k : KeyBlock) (level : Bool) : k.sample level = after k level := by
    obtain ⟨st, samples⟩ := k
    match samples with
    | [] => rfl
    | [y] => cases level <;> cases y <;> rfl
    | y :: _ :: _ => cases st <;> cases level <;> rfl
  obtain ⟨hup, hdown, hmode, hclock, hframe⟩ := sampleKeys_frame x s
  refine ⟨_, exec_keySample x hrun, hup.trans (hafter ..), hdown.trans (hafter ..), hmode.trans (hafter ..), hclock,
    hframe, fun hu hd hm => ?_⟩
  obtain ⟨hsettings, hchord, hhold⟩ := sampleKeys_upOnly hd hm
  rw [hu] at hsettings hchord
  exact ⟨hsettings, hchord, hhold⟩

/-! ### A press of Up or Down (R79, R82) -/

theorem chordDue_iff {t : Timer} : chordDue t = true ↔ t.running = true ∧ 2000000 ≤ t.us := by
  rw [chordDue, Bool.and_eq_true, decide_eq_true_iff, Config.chordUs]

theorem longPressDue_iff {t : Timer} : longPressDue t = true ↔ t.running = true ∧ 3000000 < t.us := by
  rw [longPressDue, Bool.and_eq_true, decide_eq_true_iff, Config.longPressUs]

/-- Both keys PRESSED start the chord timer, unless its chord reset is due. -/
theorem chordAfter_press {up down : KeyBlock} {t : Timer} (hu : up.state = .pressed) (hd : down.state = .pressed) :
    chordAfter .press up down t = if t.running = true ∧ 2000000 ≤ t.us then t else ⟨true, 0⟩ := by
  by_cases hdue : t.running = true ∧ 2000000 ≤ t.us
  · rw [if_pos hdue]
    exact if_neg fun h => Bool.false_ne_true (h.2.2.symm.trans (chordDue_iff.mpr hdue))
  · rw [if_neg hdue]
    exact if_pos ⟨hu, hd, Bool.eq_false_iff.mpr (chordDue_iff.not.mpr hdue)⟩

/-- A release stops the chord timer, unless its chord reset is due. -/
theorem chordAfter_release (up down : KeyBlock) (t : Timer) :
    chordAfter .release up down t = if t.running = true ∧ 2000000 ≤ t.us then t else ⟨false, 0⟩ := by
  show (if chordDue t = true then t else .stopped) = _
  simp only [chordDue_iff, Timer.stopped]

theorem exec_keyPress {s : State} {k : Key} {x : KeySample} (h : s.timers.keyClock.running = true) (hk : k ≠ .mode)
    (hp : s.recognitionAt k x = .press) :
    exec (.keyPress k x) s = .next (sampleKeys { x with downFirst := decide (k = .down) } s) :=
  congrArg Host.Outcome.next (if_pos ⟨h, hk, hp⟩)

theorem exec_keyRelease {s : State} {k : Key} {x : KeySample} (h : s.timers.keyClock.running = true)
    (hr : s.recognitionAt k x = .release) : exec (.keyRelease k x) s = .next (sampleKeys x s) :=
  congrArg Host.Outcome.next (if_pos ⟨h, hr⟩)

/-- Settles O36: the sample is the pressed key's, whose action goes by the zone setting. -/
theorem pressMovesTheSetPoints : Obligations.PressMovesTheSetPoints := by
  intro s x hrun hlink hm z s1 chord up5 down5
  have hrec : s.receives = true := decide_eq_true hlink
  refine ⟨fun hp hd => ?_, fun hp hu => ?_⟩
  · have hx : exec (.keyPress .up x) s = .next (sampleKeys { x with downFirst := false } s) :=
      exec_keyPress hrun nofun hp
    obtain ⟨hup, hdown, -, -, -⟩ := sampleKeys_frame { x with downFirst := false } s
    obtain ⟨hsettings, hchord, -⟩ := sampleKeys_upOnly (x := { x with downFirst := false }) hd hm
    have hpressed : (s.zone.up.sample x.up).state = .pressed := state_of_press hp
    refine ⟨_, hx, exec_keySample _ hrun, ?_, fun hdn _ => ?_, ?_⟩
    · rw [hup]; exact hpressed
    · rw [hchord, show s.recognitionAt .up { x with downFirst := false } = .press from hp]
      exact chordAfter_press hpressed hdn
    · rw [hsettings, if_pos ⟨hp, hrec⟩]
      show z.pressUp = _
      clear_value z
      obtain ⟨_, _, _, setting⟩ := z
      cases setting <;> rfl
  · have hx : exec (.keyPress .down x) s = .next (sampleKeys { x with downFirst := true } s) :=
      exec_keyPress hrun nofun hp
    obtain ⟨hup, hdown, -, -, -⟩ := sampleKeys_frame { x with downFirst := true } s
    obtain ⟨hsettings, hchord, -⟩ := sampleKeys_downOnly (x := { x with downFirst := true }) hu hm
    have hpressed : (s.zone.down.sample x.down).state = .pressed := state_of_press hp
    refine ⟨_, hx, exec_keySample _ hrun, ?_, fun hun _ => ?_, ?_⟩
    · rw [hdown]; exact hpressed
    · rw [hchord, show s.recognitionAt .down { x with downFirst := true } = .press from hp]
      exact chordAfter_press hun hpressed
    · rw [hsettings, if_pos ⟨hp, hrec⟩]
      show z.pressDown = _
      clear_value z
      obtain ⟨_, _, _, setting⟩ := z
      cases setting <;> rfl

/-! ### The Mode key (R80, R81) -/

theorem modeHoldAfter_press (t : Timer) :
    modeHoldAfter .press true t = if t.running = true ∧ 3000000 < t.us then t else ⟨true, 0⟩ := by
  show (if (true && !longPressDue t) = true then .started else t) = _
  by_cases hl : t.running = true ∧ 3000000 < t.us
  · simp [longPressDue_iff.mpr hl, hl]
  · simp only [Bool.eq_false_iff.mpr (longPressDue_iff.not.mpr hl), hl]
    exact rfl

theorem modeHoldAfter_release (acts : Bool) (t : Timer) :
    modeHoldAfter .release acts t = if t.running = true ∧ 3000000 < t.us then t else ⟨false, 0⟩ := by
  show (if longPressDue t = true then t else .stopped) = _
  simp only [longPressDue_iff, Timer.stopped]

theorem isShortPress_iff {r : Recognition} {t : Timer} :
    isShortPress r t = true ↔ r = .release ∧ t.running = true ∧ ¬ (t.running = true ∧ 3000000 < t.us) := by
  rw [← longPressDue_iff]
  simp [isShortPress, and_assoc]

theorem elapseTo_modeHold_running (t : Timer) (limit : Nat) (s : State) :
    (elapseTo t limit s).timers.modeHold.running = s.timers.modeHold.running := by
  show (Timer.elapse _ s.timers.modeHold).running = _
  unfold Timer.elapse
  split
  · next h => exact h.symm
  · rfl

/-- The sample of a Mode key alone (R80). -/
theorem exec_modeRelease_step {s : State} {x : KeySample} (hrun : s.timers.keyClock.running = true)
    (hu : s.recognitionAt .up x = .nothing) (hd : s.recognitionAt .down x = .nothing)
    (hr : s.recognitionAt .mode x = .release) :
    exec (.keySample x) s = .next (sampleKeys x s) ∧ (sampleKeys x s).zone.mode.state = .released ∧
      (sampleKeys x s).timers.modeHold =
        (if (toKeySample s).timers.modeHold.running = true ∧ 3000000 < (toKeySample s).timers.modeHold.us then
          (toKeySample s).timers.modeHold else ⟨false, 0⟩) := by
  obtain ⟨-, -, hmode, -, -⟩ := sampleKeys_frame x s
  obtain ⟨-, -, hhold⟩ := sampleKeys_modeOnly hu hd
  refine ⟨exec_keySample x hrun, ?_, ?_⟩
  · rw [hmode]; exact state_of_release hr
  · rw [hhold, hr]; exact modeHoldAfter_release _ _

/-- Settles O37: each recognition by the key that it is at, and the long press by its offer. -/
theorem modeKeyStepsAndOffers : Obligations.ModeKeyStepsAndOffers := by
  refine ⟨fun s x hrun hlink => ?_, fun s hrun => ?_⟩
  · intro s1 long chord
    have hrec : s.receives = true := decide_eq_true hlink
    obtain ⟨hup, hdown, hmode, -, -⟩ := sampleKeys_frame x s
    have hholds : s1.timers.modeHold.running = s.timers.modeHold.running := elapseTo_modeHold_running _ _ s
    refine ⟨fun hu hd => ⟨fun hp => ?_, fun hr hhold hlong => ?_, fun hr hno => ?_⟩, fun hm hd hr => ?_,
      fun hm hu hr => ?_⟩
    · obtain ⟨hsettings, -, hhold⟩ := sampleKeys_modeOnly hu hd
      have hnot : ¬ isShortPress (s.recognitionAt .mode x) (toKeySample s).timers.modeHold = true := by
        rw [isShortPress_iff, hp]
        exact fun h => Recognition.noConfusion h.1
      refine ⟨_, congrArg Host.Outcome.next (if_pos ⟨hrun, hp⟩), exec_keySample x hrun, ?_, ?_,
        hsettings.trans (if_neg hnot)⟩
      · rw [hmode]; exact state_of_press hp
      · rw [hhold, hp, hrec]; exact modeHoldAfter_press _
    · obtain ⟨hsample, hstate, hstopped⟩ := exec_modeRelease_step hrun hu hd hr
      obtain ⟨hsettings, -, -⟩ := sampleKeys_modeOnly hu hd
      have hshort : isShortPress (s.recognitionAt .mode x) (toKeySample s).timers.modeHold = true :=
        isShortPress_iff.mpr ⟨hr, hholds.trans hhold, hlong⟩
      refine ⟨_, congrArg Host.Outcome.next (if_pos ⟨hrun, hshort⟩), hsample, hstate, hstopped.trans (if_neg hlong), ?_⟩
      rw [hsettings, if_pos hshort]
      unfold Settings.setSetting ZoneSetting.next
      cases s.zone.settings.setting <;> rfl
    · obtain ⟨hsample, hstate, hstopped⟩ := exec_modeRelease_step hrun hu hd hr
      obtain ⟨hsettings, -, -⟩ := sampleKeys_modeOnly hu hd
      have hnot : ¬ isShortPress (s.recognitionAt .mode x) (toKeySample s).timers.modeHold = true := by
        rw [isShortPress_iff]
        rintro ⟨-, hr', hl⟩
        obtain hno | hno := hno
        · exact Bool.false_ne_true (hno.symm.trans (hholds.symm.trans hr'))
        · exact hl hno
      exact ⟨congrArg Host.Outcome.next (if_neg fun h => hnot h.2), _, exec_keyRelease hrun hr, hsample, hstate, hstopped,
        hsettings.trans (if_neg hnot)⟩
    · obtain ⟨hsettings, hchord, -⟩ := sampleKeys_upOnly hd hm
      refine ⟨_, exec_keyRelease hrun hr, exec_keySample x hrun, ?_, ?_, ?_⟩
      · rw [hup]; exact state_of_release hr
      · rw [hchord, hr]; exact chordAfter_release _ _ _
      · rw [hsettings, hr]; exact if_neg fun h => Recognition.noConfusion h.1
    · obtain ⟨hsettings, hchord, -⟩ := sampleKeys_downOnly hu hm
      refine ⟨_, exec_keyRelease hrun hr, exec_keySample x hrun, ?_, ?_, ?_⟩
      · rw [hdown]; exact state_of_release hr
      · rw [hchord, hr]; exact chordAfter_release _ _ _
      · rw [hsettings, hr]; exact if_neg fun h => Recognition.noConfusion h.1
  · intro s1
    have hoffer : offer s1.mayDrive (longPressEntries s1.zone.settings) s1.dir.queue =
        if (s.health.link = .joined ∨ s.health.link = .holdover) ∧ s.dir.queue.length ≤ 2 then
          s.dir.queue ++ [⟨0x01, tempCode s.zone.settings.sc, 0, 0⟩, ⟨0x02, tempCode s.zone.settings.sh, 0, 0⟩]
        else s.dir.queue := by
      have hlen : s.dir.queue.length + (longPressEntries s.zone.settings).length ≤ 4 ↔ s.dir.queue.length ≤ 2 := by
        simp [longPressEntries]
      show offer s.mayDrive (longPressEntries s.zone.settings) s.dir.queue = _
      simp only [offer, State.mayDrive, decide_eq_true_eq, hlen]
      exact rfl
    rw [← hoffer]
    exact congrArg Host.Outcome.next (if_pos hrun)

end Sys2Proof.Machine


/-! SUPPORT, O41 and O42. What the directive unit leaves of each role's blocks at an accepted round handed on, and the zone's
and the handler's work on what it left. -/

namespace Sys2Proof.Machine

/-! ### What the role's block finds (R39, R132) -/

/-- The station that has adopted the round has the role's blocks as they were, at the round's end. -/
theorem adopted_blocks (w : Window) (s : State) :
    (adopted w s).zone = s.zone ∧ (adopted w s).damper = s.damper ∧ (adopted w s).handler = s.handler ∧
      (adopted w s).outdoor = s.outdoor ∧ (adopted w s).out = s.out ∧
      (adopted w s).timers = (elapseTo s.timers.round (Config.bitsUs 482) s).timers := by
  unfold adopted
  dsimp only
  split
  · exact ⟨rfl, rfl, rfl, rfl, rfl, rfl⟩
  · exact ⟨rfl, rfl, rfl, rfl, rfl, rfl⟩

/-- What holds of the station with another directive unit, and after each effect that the role accepts, holds after the
directive unit's work: it executes the code of a third reception, or none (R176, R177). -/
theorem directiveRound_induct {P : State → Prop} {s : State} (hunit : ∀ dir, P { s with dir := dir })
    (heffect : ∀ d c dir dir', unpackDirective s.health.view.directive = some d → d.addressedTo s.rst.address = true →
      (s.dir.tracker.update (some d)).count = 3 → (s.dir.tracker.update (some d)).executed = none →
      codeOf d.code = some c → c.forRole s.role = true →
      P { (c.effect d.arg { s with dir := dir }).1 with dir := dir' }) : P (directiveRound s) := by
  obtain ⟨-, h⟩ | ⟨d, hf, h | ⟨hto, hcount, hfirst, h⟩⟩ := directiveRound_cases s
  · rw [h]
    exact hunit _
  · rw [h]
    exact hunit _
  · rw [h]
    obtain ⟨c, hc, he⟩ | ⟨-, he⟩ :=
      execute_cases d { s with dir := { s.dir with tracker := s.dir.tracker.update (some d) } }
    · obtain ⟨hcode, hrole, -⟩ := acceptedCode_some hc
      rw [he]
      exact heffect d c _ _ hf hto hcount hfirst hcode hrole
    · rw [he]
      exact hunit _

/-- What the role's block reads besides its own state, at the station that the directive unit leaves. -/
theorem directiveRound_adopted (w : Window) (s : State) :
    (directiveRound (adopted w s)).health.view = viewOf w.data ∧
      (directiveRound (adopted w s)).meas = s.meas ∧ (directiveRound (adopted w s)).rst = s.rst := by
  obtain ⟨hview, -, -, -, -, -, -, -, -, -, hrst, hmeas, -⟩ := adopted_spec w s
  have hhealth := directiveRound_health (adopted w s)
  refine ⟨?_, (directiveRound_meas _).trans hmeas, (directiveRound_rst _).trans hrst⟩
  have hv : (directiveRound (adopted w s)).health.view = (adopted w s).health.view :=
    (congrArg Health.view hhealth :)
  exact hv.trans hview

theorem adopted_role (w : Window) (s : State) : (adopted w s).role = s.role :=
  congrArg (fun r : ResetBlock => roleOf r.address) (adopted_spec w s).2.2.2.2.2.2.2.2.2.2.1

theorem directiveRound_role (w : Window) (s : State) : (directiveRound (adopted w s)).role = s.role :=
  congrArg (fun r : ResetBlock => roleOf r.address) (directiveRound_adopted w s).2.2

/-! ### The zone (R86 to R89, R114 to R119) -/

/-- The zone that the directive unit leaves is the zone of before but for its settings, with the damper's target as it was:
homing does not move it (R76, R128). -/
theorem directiveRound_zone (s : State) :
    (∃ z, (directiveRound s).zone = { s.zone with settings := z }) ∧
      (directiveRound s).damper.target = s.damper.target := by
  refine directiveRound_induct (P := fun t =>
    (∃ z, t.zone = { s.zone with settings := z }) ∧ t.damper.target = s.damper.target)
    (fun dir => ⟨⟨_, rfl⟩, rfl⟩) fun d c dir dir' _ _ _ _ _ _ => ?_
  obtain ⟨z, hz, -⟩ := codeEffect_zone c d.arg { s with dir := dir }
  refine ⟨⟨z, hz⟩, ?_⟩
  obtain ⟨hd, -⟩ | ⟨hd, -⟩ := codeEffect_damper c d.arg { s with dir := dir }
  · exact congrArg Damper.target hd
  · refine (congrArg Damper.target hd).trans ?_
    unfold rehome Motor.startHoming
    split
    · dsimp only
      split <;> rfl
    · rfl

/-- A call fits the mode (R86): the cooling side of the house serves COOL and DRY, heating HEAT, and the fan every call. -/
theorem callMatches_iff (call : Call) (m : Mode) :
    callMatches call m = true ↔
      m = .fan ∧ call ≠ .none ∨ (m = .dry ∨ m = .cool) ∧ (call = .cool ∨ call = .dry) ∨ m = .heat ∧ call = .heat := by
  cases call <;> cases m <;> decide

theorem servedAt_iff (call : Call) (m : Mode) (v : View) (f : PlantFilter) :
    servedAt call m v f = true ↔
      (m = .fan ∧ call ≠ .none ∨ (m = .dry ∨ m = .cool) ∧ (call = .cool ∨ call = .dry) ∨ m = .heat ∧ call = .heat) ∧
        f.fanRun.value = true ∧ v.flags.getLsbD 1 = false ∧
        (m = .fan ∨ f.compRun.value = true ∧ f.defrost.value = false) := by
  rw [servedAt, Bool.and_eq_true, callMatches_iff]
  refine and_congr_right fun _ => ?_
  simp [plantServes, View.test, and_assoc]

/-- A call that fits the mode has the mode's request factor (R114). -/
theorem requestOf_eq (call : Call) (m : Mode) (d qz : Nat) :
    requestOf call m d qz =
      if m = .fan ∧ call ≠ .none ∨ (m = .dry ∨ m = .cool) ∧ (call = .cool ∨ call = .dry) ∨ m = .heat ∧ call = .heat then
        (d * qz * (if m = .dry then 5 else 8) + 252) / 504
      else 0 := by
  unfold requestOf
  by_cases hfits : callMatches call m = true
  · rw [if_pos hfits, if_pos ((callMatches_iff call m).mp hfits)]
    cases m with
    | off => cases call <;> cases hfits
    | _ => rfl
  · rw [if_neg hfits, if_neg ((callMatches_iff call m).not.mp hfits)]

theorem integrate_eq (a : Nat) (e : Int) :
    (integrate a e : Int) = max 0 (min 1008 ((a : Int) + max (-20) (min 20 e))) := by
  unfold integrate limitInt
  omega

theorem errorDemand_eq (e : Int) (a : Nat) :
    (errorDemand e a : Int) = max 1 (min 63 (2 * (e + 5) + (a / 16 : Nat))) := by
  unfold errorDemand limitInt
  omega

/-- A and D of a COOL or HEAT call after a round with a valid room temperature (R87, R88). -/
theorem round_of_error {x : Zone} (z : Settings) (m : Mode) (v : View) (f : PlantFilter) (t : Int) (rh : Option Int)
    (h : x.call = .cool ∨ x.call = .heat) :
    ((x.round z m v f (some t) rh).a : Int) =
        (if (x.round z m v f (some t) rh).served = true then
          max 0 (min 1008 ((x.a : Int) + max (-20) (min 20 (callError x.call z t)))) else x.a) ∧
      ((x.round z m v f (some t) rh).d : Int) =
        max 1 (min 63 (2 * (callError x.call z t + 5) + ((x.round z m v f (some t) rh).a / 16 : Nat))) := by
  have ha : (x.round z m v f (some t) rh).a =
      if servedAt x.call m v f = true then integrate x.a (callError x.call z t) else x.a := by
    show x.accumulated (servedAt x.call m v f) z (some t) = _
    unfold Zone.accumulated
    obtain h | h := h <;> rw [h]
  have hdemand (a : Nat) : x.demanded a z (some t) rh = errorDemand (callError x.call z t) a := by
    unfold Zone.demanded
    obtain h | h := h <;> rw [h]
  have hd : (x.round z m v f (some t) rh).d = errorDemand (callError x.call z t) (x.round z m v f (some t) rh).a :=
    hdemand _
  refine ⟨?_, by rw [hd, errorDemand_eq]⟩
  rw [ha]
  show _ = if servedAt x.call m v f = true then _ else _
  split
  · exact integrate_eq _ _
  · rfl

/-- Without a valid room temperature A and D of a COOL or HEAT call stay (R87, R88). -/
theorem round_of_invalid {x : Zone} (z : Settings) (m : Mode) (v : View) (f : PlantFilter) (rh : Option Int)
    (h : x.call = .cool ∨ x.call = .heat) :
    (x.round z m v f none rh).a = x.a ∧ (x.round z m v f none rh).d = x.d := by
  have ha : (x.round z m v f none rh).a = x.accumulated (servedAt x.call m v f) z none := rfl
  have hd : (x.round z m v f none rh).d = x.demanded (x.round z m v f none rh).a z none rh := rfl
  rw [ha, hd]
  unfold Zone.accumulated Zone.demanded
  obtain h | h := h <;> rw [h] <;> exact ⟨rfl, rfl⟩

/-- A of a call that has no error stays, and D follows from the humidity, or is 0 (R87, R89). -/
theorem round_of_other {x : Zone} (z : Settings) (m : Mode) (v : View) (f : PlantFilter) (tm rh : Option Int)
    (h : x.call = .dry ∨ x.call = .none) :
    (x.round z m v f tm rh).a = x.a ∧
      (x.call = .none → (x.round z m v f tm rh).d = 0) ∧
      (x.call = .dry → (∀ r, rh = some r → ((x.round z m v f tm rh).d : Int) = max 4 (min 32 ((r - z.hl) / 5))) ∧
        (rh = none → (x.round z m v f tm rh).d = x.d)) := by
  have ha : (x.round z m v f tm rh).a = x.accumulated (servedAt x.call m v f) z tm := rfl
  have hd : (x.round z m v f tm rh).d = x.demanded (x.round z m v f tm rh).a z tm rh := rfl
  rw [hd, ha]
  unfold Zone.accumulated Zone.demanded
  obtain h | h := h
  · rw [h]
    refine ⟨rfl, nofun, fun _ => ⟨?_, ?_⟩⟩
    · rintro r rfl
      exact dryDemand_eq _ _
    · rintro rfl
      rfl
  · rw [h]
    exact ⟨rfl, fun _ => rfl, nofun⟩

/-- The zone's position as R118 works it out. -/
theorem positionOf_eq (m : Mode) (fcap r g qz : Nat) :
    positionOf m fcap r g qz =
      if m = .off ∨ fcap = 0 then 100
      else if r = 0 then 0
      else max 15 (min 100 ((100 * g + qz - 1) / qz)) := rfl

/-! ### The grants and the ceiling (R117) -/

/-- Shares of a total rounded down, each over `n`, sum to no more than the total's share (R117). -/
theorem sum_div_le (rs : List Nat) (f n : Nat) : (rs.map fun r => r * f / n).sum ≤ rs.sum * f / n := by
  induction rs with
  | nil => simp
  | cons r rs ih =>
    rw [List.map_cons, List.sum_cons, List.sum_cons, Nat.add_mul]
    calc r * f / n + (rs.map fun r => r * f / n).sum ≤ r * f / n + rs.sum * f / n := Nat.add_le_add_left ih _
      _ ≤ (r * f + rs.sum * f) / n := Nat.div_add_div_le_add_div

/-- The grants of the zones never sum to more than the ceiling, and none exceeds its request (R117). -/
theorem grants_le (rs : List Nat) (fcap : Nat) :
    (rs.map fun r => if fcap = 0 then 0 else if rs.sum ≤ fcap then r else r * fcap / rs.sum).sum ≤ fcap ∧
      ∀ r ∈ rs, (if fcap = 0 then 0 else if rs.sum ≤ fcap then r else r * fcap / rs.sum) ≤ r := by
  by_cases h0 : fcap = 0
  · simp [h0]
  · by_cases hle : rs.sum ≤ fcap
    · simp [h0, hle]
    · have hpos : 0 < rs.sum := by omega
      simp only [h0, hle, if_false]
      refine ⟨(sum_div_le rs fcap rs.sum).trans ?_, fun r _ => ?_⟩
      · rw [Nat.mul_div_cancel_left _ hpos]
      · refine Nat.div_le_of_le_mul ?_
        rw [Nat.mul_comm rs.sum]
        exact Nat.mul_le_mul_left r (by omega)

/-- What the zone's work makes of zone and damper, one after the other (R86 to R89, R114 to R119). -/
theorem zoneRound_eqs (z : Settings) (x : State) :
    (zoneRound z x).zone =
        x.zone.round z (zoneRound z x).coll.state.mode x.health.view (zoneRound z x).health.plant x.tempA
          x.roomHumidity ∧
      (zoneRound z x).damper.request =
        requestOf x.zone.call (zoneRound z x).coll.state.mode (zoneRound z x).zone.d x.qz ∧
      (zoneRound z x).damper.grant =
        grantOf (slotByte x.health.view.share x.rst.address.toNat).toNat x.health.view.rtot x.health.view.fcap ∧
      (zoneRound z x).damper.percent =
        positionOf (zoneRound z x).coll.state.mode x.health.view.fcap (zoneRound z x).damper.request
          (zoneRound z x).damper.grant x.qz ∧
      (zoneRound z x).damper.pending = (zoneRound z x).damper.percent * 4 ∧
      (zoneRound z x).damper.target = x.damper.target := ⟨rfl, rfl, rfl, rfl, rfl, rfl⟩

/-- A zone station's work at an accepted round handed on is the zone's round on the zone of before, with the settings of
before the round's directive. -/
theorem exec_handedOn_zone {w : Window} {s : State} (hw : HandedOn w s) (hr : s.role = .zone) :
    ∃ t z', exec (.roundEnd w) s = .next t ∧
      t.zone =
        Zone.round s.zone.settings t.coll.state.mode (viewOf w.data) t.health.plant s.tempA s.roomHumidity
          { s.zone with settings := z' } ∧
      t.damper.request = requestOf s.zone.call t.coll.state.mode t.zone.d (16 * s.rst.parameter.toNat) ∧
      t.damper.grant =
        grantOf (slotByte (viewOf w.data).share s.rst.address.toNat).toNat (viewOf w.data).rtot (viewOf w.data).fcap ∧
      t.damper.percent =
        positionOf t.coll.state.mode (viewOf w.data).fcap t.damper.request t.damper.grant (16 * s.rst.parameter.toNat) ∧
      t.damper.pending = t.damper.percent * 4 ∧ t.damper.target = s.damper.target := by
  obtain ⟨hview, hmeas, hrst⟩ := directiveRound_adopted w s
  obtain ⟨⟨z', hzone⟩, htarget⟩ := directiveRound_zone (adopted w s)
  obtain ⟨hz, hd, -, -, -, -⟩ := adopted_blocks w s
  rw [hz] at hzone
  rw [hd] at htarget
  have hrole := (directiveRound_role w s).trans hr
  have hx := exec_handedOn hw
  generalize directiveRound (adopted w s) = x at *
  have hround : roleRound s.zone.settings x = zoneRound s.zone.settings x := by rw [roleRound, hrole]
  have htempA : x.tempA = s.tempA := congrArg (fun m : Measurement => m.a.temp) hmeas
  have hhum : x.roomHumidity = s.roomHumidity := congrArg (fun m : Measurement => m.b.humidity) hmeas
  have hqz : x.qz = 16 * s.rst.parameter.toNat := congrArg (fun r : ResetBlock => 16 * r.parameter.toNat) hrst
  have hcall : x.zone.call = s.zone.call := (congrArg Zone.call hzone :)
  obtain ⟨h1, h2, h3, h4, h5, h6⟩ := zoneRound_eqs s.zone.settings x
  rw [hzone, hview, htempA, hhum] at h1
  rw [hcall, hqz] at h2
  rw [hrst, hview] at h3
  rw [hview, hqz] at h4
  exact ⟨_, z', hx.trans (congrArg Host.Outcome.next hround), h1, h2, h3, h4, h5, h6.trans htarget⟩

/-- Settles O41: the zone's round on the zone that the directive unit leaves, by its call, and the sum of the grants. -/
theorem zoneWorksAtARound : Obligations.ZoneWorksAtARound := by
  refine ⟨fun s w hw hr => ?_, fun rs fcap => grants_le rs fcap⟩
  intro v z call qz rtot fcap rv
  obtain ⟨t, z', hx, hzone, hrequest, hgrant, hpercent, hpending, htarget⟩ := exec_handedOn_zone hw hr
  refine ⟨t, hx, ?_⟩
  intro m f fits
  have hserved : t.zone.served = servedAt call m v f := by rw [hzone]; exact rfl
  refine ⟨by rw [hzone]; exact rfl, ?_, fun hc => ?_, fun hc => ?_, fun hc => ⟨fun htm => ?_, fun tm htm => ?_⟩,
    hrequest.trans (requestOf_eq ..), hgrant, hpercent.trans (positionOf_eq ..), hpending.trans (Nat.mul_comm ..), htarget⟩
  · rw [hserved]
    exact Bool.eq_iff_iff.mpr ((servedAt_iff ..).trans decide_eq_true_iff.symm)
  · obtain ⟨ha, hnone, -⟩ := round_of_other (x := { s.zone with settings := z' }) z m v f s.tempA s.roomHumidity (.inr hc)
    rw [hzone]
    exact ⟨ha, hnone hc⟩
  · obtain ⟨ha, -, hdry⟩ := round_of_other (x := { s.zone with settings := z' }) z m v f s.tempA s.roomHumidity (.inl hc)
    rw [hzone]
    exact ⟨ha, hdry hc⟩
  · have hround := round_of_invalid (x := { s.zone with settings := z' }) z m v f s.roomHumidity hc
    rw [hzone, htm]
    exact hround
  · intro e
    have he : callError call z tm = e := by
      obtain h | h := hc
      · rw [h]; exact (if_pos h).symm
      · rw [h]; exact (if_neg (by rw [h]; exact nofun)).symm
    have hround := round_of_error (x := { s.zone with settings := z' }) z m v f tm s.roomHumidity hc
    change (_ = if _ then max 0 (min 1008 (_ + max (-20) (min 20 (callError call z tm)))) else _) ∧
      _ = max 1 (min 63 (2 * (callError call z tm + 5) + _)) at hround
    rw [he] at hround
    rw [hzone, htm]
    exact hround

end Sys2Proof.Machine


/-! O42 and O43. The handler's and the outdoor station's work at an accepted round handed on. -/

namespace Sys2Proof.Machine

/-! ### The handler (R131 to R137) -/

/-- A directive that a handler takes up changes no block of the other roles, and no output (R179). -/
theorem codeEffect_of_handler {c : Code} (h : c.forRole .handler = true) (arg : Byte) (s : State) :
    (c.effect arg s).1.out = s.out ∧ (c.effect arg s).1.zone = s.zone ∧ (c.effect arg s).1.damper = s.damper ∧
      (c.effect arg s).1.outdoor = s.outdoor := by
  cases c with
  | testBlower => exact ⟨rfl, rfl, rfl, rfl⟩
  | read => exact ⟨rfl, rfl, rfl, rfl⟩
  | corruptCheck => exact ⟨rfl, rfl, rfl, rfl⟩
  | muteCount => exact ⟨rfl, rfl, rfl, rfl⟩
  | normal => exact ⟨rfl, rfl, rfl, rfl⟩
  | _ => cases h

theorem directiveRound_of_handler {s : State} (hr : s.role = .handler) :
    (directiveRound s).out = s.out ∧ (directiveRound s).zone = s.zone ∧ (directiveRound s).damper = s.damper ∧
      (directiveRound s).outdoor = s.outdoor := by
  refine directiveRound_induct (P := fun t =>
    t.out = s.out ∧ t.zone = s.zone ∧ t.damper = s.damper ∧ t.outdoor = s.outdoor)
    (fun dir => ⟨rfl, rfl, rfl, rfl⟩) fun d c dir dir' _ _ _ _ _ hc => ?_
  rw [hr] at hc
  exact codeEffect_of_handler hc d.arg { s with dir := dir }

/-- The cold-blow hold at an accepted round (R137): it starts at the first round in HEAT with COMP_RUN against a clear
record, and is cancelled out of HEAT or without COMP_RUN. -/
theorem roundHold_eq (m : Mode) (f : PlantFilter) (h : Handler) :
    h.roundHold m f =
      { h with
        holdActive :=
          if m = .heat ∧ f.compRun.value = true ∧ h.compRecord = false then true
          else if h.holdActive = true ∧ (m ≠ .heat ∨ f.compRun.value = false) then false
          else h.holdActive
        holdCount :=
          if (m = .heat ∧ f.compRun.value = true ∧ h.compRecord = false) ∨
              (h.holdActive = true ∧ (m ≠ .heat ∨ f.compRun.value = false)) then 0
          else h.holdCount
        compRecord := f.compRun.value } := by
  unfold Handler.roundHold
  by_cases hs : m = .heat ∧ f.compRun.value = true ∧ h.compRecord = false
  · simp [hs]
  · by_cases hc : h.holdActive = true ∧ (m ≠ .heat ∨ f.compRun.value = false)
    · simp [hs, hc]
    · simp [hs, hc]

/-- The handler's work at an accepted round, in the order of R132. -/
theorem handler_round_eq (m : Mode) (f : PlantFilter) (rtot fcap fmin : Nat) (h : Handler) :
    h.round m f rtot fcap fmin =
      { h.roundHold m f with
        fb := blowerTarget m f (h.roundHold m f).holdActive rtot fcap fmin
        pendingDuty := roundNearest (1000 * blowerTarget m f (h.roundHold m f).holdActive rtot fcap fmin) fcap
        pendingBypass := bypassPosition (blowerTarget m f (h.roundHold m f).holdActive rtot fcap fmin) rtot fcap } := rfl

/-- Settles O42: the handler's round on the handler of before, which the directive unit does not touch. -/
theorem handlerWorksAtARound : Obligations.HandlerWorksAtARound := by
  intro s w hw hr v rtot fcap fmin air
  obtain ⟨hview, -, hrst⟩ := directiveRound_adopted w s
  obtain ⟨hout, hzone, hdamper, houtdoor⟩ := directiveRound_of_handler ((adopted_role w s).trans hr)
  obtain ⟨hz, hd, hh, ho, hu, -⟩ := adopted_blocks w s
  have hhandler := (directiveRound_handler (adopted w s)).trans hh
  have hrole := (directiveRound_role w s).trans hr
  have hx := exec_handedOn hw
  generalize directiveRound (adopted w s) = x at *
  have hround : roleRound s.zone.settings x = handlerRound x := by rw [roleRound, hrole]
  have hfcap : x.ownFcap = fcap := congrArg (fun r : ResetBlock => 64 * (r.parameter.toNat + 1)) hrst
  have hfmin : x.ownFmin = fmin := congrArg (fun n => 3 * n / 8) hfcap
  have hwork : (handlerRound x).handler = s.handler.round x.mode x.health.plant rtot fcap fmin := by
    show x.handler.round x.mode x.health.plant x.health.view.rtot x.ownFcap x.ownFmin = _
    rw [hhandler, hview, hfcap, hfmin]
    exact rfl
  rw [handler_round_eq, roundHold_eq] at hwork
  have hfb : (handlerRound x).handler.fb =
      blowerTarget x.mode x.health.plant (handlerRound x).handler.holdActive rtot fcap fmin := by
    rw [hwork]
  have hduty : (handlerRound x).handler.pendingDuty = roundNearest (1000 * (handlerRound x).handler.fb) fcap := by
    rw [hwork]
  have hbypass : (handlerRound x).handler.pendingBypass =
      bypassPosition (handlerRound x).handler.fb rtot fcap := by
    rw [hwork]
  refine ⟨_, hx.trans (congrArg Host.Outcome.next hround), ?_⟩
  intro m f starts cancelled fb
  refine ⟨?_, ?_, ?_, ?_, ?_, ?_, ?_, hout.trans hu, hzone.trans hz, hdamper.trans hd, houtdoor.trans ho⟩
  · rw [hwork]; exact rfl
  · rw [hwork]; exact rfl
  · rw [hwork]; exact rfl
  · exact hfb
  · exact hduty.trans (congrArg (fun n => (n + fcap) / (2 * fcap)) (by omega))
  · exact hbypass
  · rw [hwork]

/-! ### The capacity target (R147) -/

/-- The pending capacity target, by the table of R147. -/
theorem capacityTarget_eq (m : Mode) (v : View) :
    capacityTarget m v =
      if m = .off ∨ m = .fan ∨ v.fcap = 0 ∨ v.rtot = 0 then 0
      else if m = .dry then 40
      else if max 30 (min 100 ((100 * min v.rtot v.fcap + v.fcap - 1) / v.fcap)) < 70 ∧
          48 ≤ (if m = .cool then v.peakc.toNat else v.peakh.toNat) then 70
      else max 30 (min 100 ((100 * min v.rtot v.fcap + v.fcap - 1) / v.fcap)) := by
  by_cases hz : v.fcap = 0 ∨ v.rtot = 0
  · cases m <;> simp [capacityTarget, hz]
  · cases m with
    | off => simp [capacityTarget]
    | fan => simp [capacityTarget]
    | dry => simp [capacityTarget, hz]
    | cool => simp [capacityTarget, hz, capacityFrom, sidePeak, limitTo, roundUp]
    | heat => simp [capacityTarget, hz, capacityFrom, sidePeak, limitTo, roundUp]

/-! ### Forced stops and the abort of a defrost (R152, R157) -/

theorem roundForcesStop_iff (m : Mode) (f : PlantFilter) (side : Option Side) :
    roundForcesStop m f side = true ↔
      m = .off ∨ m = .fan ∨ m = .heat ∧ side = some .cooling ∨
        (m = .cool ∨ m = .dry) ∧ (side = some .heating ∨ f.overflow.value = true) := by
  cases m <;> simp [roundForcesStop, Mode.active, Mode.coolingSide]

/-- The plant with the pending target of the round (R147). -/
def targeted (s : State) : Plant :=
  { s.plant with o := { s.outdoor with pendingCt := capacityTarget s.mode s.health.view } }

/-- The plant with a defrost that the mode aborts (R157). -/
def Plant.abort (m : Mode) (p : Plant) : Plant := { p with o := p.o.abortDefrost m }

theorem outdoorRound_plant (s : State) :
    (outdoorRound s).plant =
      ((if roundForcesStop s.mode s.health.plant s.outdoor.side then (targeted s).forcedStop
        else targeted s).abort s.mode).requestFan := rfl

/-- A stop leaves no defrost to abort (R153). -/
theorem abort_stop (m : Mode) (after : CompState) (p : Plant) : (p.stop after).abort m = p.stop after := by
  have ho : (p.stop after).o.abortDefrost m = (p.stop after).o := if_neg fun h => h.2 rfl
  rw [Plant.abort, ho]

/-- An accepted round that forces a stop halts the machine, stops its channel and asks the fan off (R152, R153). -/
theorem outdoorRound_forced {s : State} (hr : s.outdoor.comp.isRunning = true)
    (hf : roundForcesStop s.mode s.health.plant s.outdoor.side = true) :
    (outdoorRound s).plant =
      Plant.requestFan
        { s.plant with
          o := { s.outdoor.halt .minOff with pendingCt := capacityTarget s.mode s.health.view }
          out := s.out.stopCompressor } := by
  have hstop : (targeted s).forcedStop = (targeted s).stop .minOff := if_pos hr
  rw [outdoorRound_plant, if_pos hf, hstop, abort_stop]
  exact requestFan_twice _

/-- An accepted round that forces no stop aborts a defrost out of HEAT, and asks the fan (R155, R157). -/
theorem outdoorRound_unforced {s : State}
    (h : ¬ (s.outdoor.comp.isRunning = true ∧ roundForcesStop s.mode s.health.plant s.outdoor.side = true)) :
    (outdoorRound s).plant = ((targeted s).abort s.mode).requestFan := by
  rw [outdoorRound_plant]
  by_cases hf : roundForcesStop s.mode s.health.plant s.outdoor.side = true
  · have hrest : (targeted s).forcedStop = targeted s := if_neg fun hr => h ⟨hr, hf⟩
    rw [if_pos hf, hrest]
  · rw [if_neg hf]

/-- A defrost that an accepted round aborts leaves NORMAL with no phase timer (R157). -/
theorem abortDefrost_eq (m : Mode) (o : Outdoor) :
    o.abortDefrost m = if m ≠ .heat ∧ o.defrost ≠ .normal then { o with defrost := .normal, phase := 0 } else o := rfl

theorem abortDefrost_targets (m : Mode) (o : Outdoor) :
    (o.abortDefrost m).pendingCt = o.pendingCt ∧ (o.abortDefrost m).ct = o.ct := by
  rw [abortDefrost_eq]
  split <;> exact ⟨rfl, rfl⟩

theorem outdoorRound_targets (s : State) :
    (outdoorRound s).outdoor.pendingCt = capacityTarget s.mode s.health.view ∧
      (outdoorRound s).outdoor.ct = s.outdoor.ct := by
  by_cases h : s.outdoor.comp.isRunning = true ∧ roundForcesStop s.mode s.health.plant s.outdoor.side = true
  · have ho : (outdoorRound s).outdoor = _ := congrArg Plant.o (outdoorRound_forced h.1 h.2)
    rw [ho]
    exact ⟨rfl, rfl⟩
  · have ho : (outdoorRound s).outdoor = (targeted s).o.abortDefrost s.mode :=
      congrArg Plant.o (outdoorRound_unforced h)
    rw [ho]
    exact abortDefrost_targets s.mode (targeted s).o

/-! ### What the directive unit leaves of the plant (R158, R160) -/

/-- A directive that an outdoor station takes up leaves the capacity target in effect, and but for FORCE_DEFROST the machines,
the outputs and the timers too: CLEAR_TRIP reaches LOCKOUT and the trip history alone (R160). -/
theorem codeEffect_of_outdoor {c : Code} (h : c.forRole .outdoor = true) (arg : Byte) (s : State) :
    (c.effect arg s).1.outdoor.ct = s.outdoor.ct ∧
      (c ≠ .forceDefrost →
        { (c.effect arg s).1.outdoor with trips := s.outdoor.trips, lockout := s.outdoor.lockout } = s.outdoor ∧
          (c.effect arg s).1.out = s.out ∧ (c.effect arg s).1.timers = s.timers) := by
  cases c with
  | testSpeed => exact ⟨rfl, fun _ => ⟨rfl, rfl, rfl⟩⟩
  | clearTrip => exact ⟨rfl, fun _ => ⟨rfl, rfl, rfl⟩⟩
  | read => exact ⟨rfl, fun _ => ⟨rfl, rfl, rfl⟩⟩
  | corruptCheck => exact ⟨rfl, fun _ => ⟨rfl, rfl, rfl⟩⟩
  | muteCount => exact ⟨rfl, fun _ => ⟨rfl, rfl, rfl⟩⟩
  | normal => exact ⟨rfl, fun _ => ⟨rfl, rfl, rfl⟩⟩
  | forceDefrost =>
    refine ⟨?_, fun hne => absurd rfl hne⟩
    simp only [Code.effect, effectForceDefrost]
    split <;> rfl
  | _ => cases h

/-- What an outdoor station's plant is after the directive unit's work: that of before but for LOCKOUT and the trips, where
the round executes no FORCE_DEFROST. -/
theorem directiveRound_of_outdoor {w : Window} {s : State} (hr : s.role = .outdoor) :
    (directiveRound (adopted w s)).outdoor.ct = s.outdoor.ct ∧
      ((∀ d, ThirdReception d w s → d.code ≠ 0x23) →
        { (directiveRound (adopted w s)).outdoor with trips := s.outdoor.trips, lockout := s.outdoor.lockout } =
            s.outdoor ∧
          (directiveRound (adopted w s)).out = s.out ∧
          (directiveRound (adopted w s)).timers = (elapseTo s.timers.round (Config.bitsUs 482) s).timers) := by
  obtain ⟨-, -, -, ho, hu, ht⟩ := adopted_blocks w s
  obtain ⟨hview, -⟩ := adopted_spec w s
  have hrole := (adopted_role w s).trans hr
  rw [← ht, ← hu, ← ho]
  refine directiveRound_induct (P := fun t => t.outdoor.ct = (adopted w s).outdoor.ct ∧
    ((∀ d, ThirdReception d w s → d.code ≠ 0x23) →
      { t.outdoor with trips := (adopted w s).outdoor.trips, lockout := (adopted w s).outdoor.lockout } =
          (adopted w s).outdoor ∧ t.out = (adopted w s).out ∧ t.timers = (adopted w s).timers))
    (fun dir => ⟨rfl, fun _ => ⟨rfl, rfl, rfl⟩⟩) fun d c dir dir' hf hto hcount hfirst hcode hc => ?_
  rw [hrole] at hc
  obtain ⟨hct, hrest⟩ := codeEffect_of_outdoor hc d.arg { adopted w s with dir := dir }
  refine ⟨hct, fun hno => hrest ?_⟩
  rintro rfl
  rw [hview] at hf
  have hthird : ThirdReception d w s := (thirdReception_iff hf).mpr
    ⟨(tracker_third_iff ..).mp ⟨hcount, hfirst⟩, by simpa [Directive.addressedTo] using hto⟩
  exact hno d hthird (number_of_codeOf hcode).symm

/-! ### O43 -/

/-- An accepted round forces a stop of the machine (R152). -/
def forcesStop (s : State) : Bool :=
  s.outdoor.comp.isRunning && roundForcesStop s.mode s.health.plant s.outdoor.side

/-- The outdoor logic after an accepted round (R147, R152, R157). -/
def roundMachine (s : State) : Outdoor :=
  if forcesStop s then { s.outdoor.halt .minOff with pendingCt := capacityTarget s.mode s.health.view }
  else Outdoor.abortDefrost s.mode { s.outdoor with pendingCt := capacityTarget s.mode s.health.view }

/-- The compressor channel after an accepted round (R165). -/
def roundChannel (s : State) : Pwm := if forcesStop s then ⟨0, 0, false⟩ else s.out.compressor

/-- The outdoor station's work at an accepted round: machine and channel, and then one request of the fan (R155). -/
theorem outdoorRound_eq (s : State) :
    (outdoorRound s).plant =
      Plant.requestFan ⟨roundMachine s, { s.out with compressor := roundChannel s }, s.timers⟩ := by
  by_cases h : forcesStop s = true
  · obtain ⟨hr, hf⟩ := Bool.and_eq_true_iff.mp h
    rw [roundMachine, roundChannel, if_pos h, if_pos h]
    exact outdoorRound_forced hr hf
  · rw [roundMachine, roundChannel, if_neg h, if_neg h]
    exact outdoorRound_unforced fun hx => h (Bool.and_eq_true_iff.mpr hx)

theorem outdoorRound_o (s : State) : (outdoorRound s).outdoor = roundMachine s := congrArg Plant.o (outdoorRound_eq s)

/-- The outputs and the fan's interval timer after an accepted round of the outdoor station (R155, R165, R169). -/
theorem outdoorRound_outputs (s : State) :
    (outdoorRound s).out.compressor = roundChannel s ∧
      (outdoorRound s).out.fan = s.out.fan.request (outdoorRound s).outdoor.fanWanted s.timers.fan.us ∧
      (outdoorRound s).timers.fan =
        (if (outdoorRound s).out.fan.on = s.out.fan.on then s.timers.fan else ⟨true, 0⟩) ∧
      { (outdoorRound s).out with compressor := s.out.compressor, fan := s.out.fan } = s.out := by
  have hout : (outdoorRound s).out =
      { s.out with
        compressor := roundChannel s, fan := s.out.fan.request (roundMachine s).fanWanted s.timers.fan.us } :=
    (congrArg Plant.out (outdoorRound_eq s) :)
  have htimer : (outdoorRound s).timers.fan =
      intervalAfter s.out.fan (s.out.fan.request (roundMachine s).fanWanted s.timers.fan.us) s.timers.fan :=
    (congrArg (fun p : Plant => p.t.fan) (outdoorRound_eq s) :)
  rw [outdoorRound_o, htimer, hout]
  exact ⟨rfl, rfl, intervalAfter_comm .., rfl⟩

/-- The machine after an accepted round, on an outdoor logic that differs from `o` in LOCKOUT and trips (R152, R157). -/
theorem roundMachine_eq {s : State} {o : Outdoor} {q : Prop} [Decidable q]
    (h : { s.outdoor with trips := o.trips, lockout := o.lockout } = o) (hq : forcesStop s = true ↔ q) :
    { roundMachine s with pendingCt := o.pendingCt, trips := o.trips, lockout := o.lockout } =
      if q then
        { o with
          comp := .minOff, speed := 0, side := none, runTimer := 0, offTimer := 0, frostStop := 0
          defrost := .normal, phase := 0 }
      else if s.mode ≠ .heat ∧ o.defrost ≠ .normal then { o with defrost := .normal, phase := 0 }
      else o := by
  obtain ⟨trips, lockout, ho⟩ : ∃ a b, s.outdoor = { o with trips := a, lockout := b } :=
    ⟨s.outdoor.trips, s.outdoor.lockout,
      (congrArg (fun y : Outdoor => { y with trips := s.outdoor.trips, lockout := s.outdoor.lockout }) h :)⟩
  by_cases hf : q
  · rw [roundMachine, if_pos (hq.mpr hf), if_pos hf, ho]
    exact rfl
  · rw [roundMachine, if_neg (hq.not.mpr hf), if_neg hf, abortDefrost_eq, ho]
    by_cases hd : s.mode ≠ .heat ∧ o.defrost ≠ .normal
    · rw [if_pos hd]
      dsimp only
      rw [if_pos hd]
    · rw [if_neg hd]
      dsimp only
      rw [if_neg hd]

/-- Settles O43: the outdoor station's round on the plant that the directive unit leaves. -/
theorem outdoorWorksAtARound : Obligations.OutdoorWorksAtARound := by
  intro s w hw hr v rtot fcap s1
  obtain ⟨hview, -, -⟩ := directiveRound_adopted w s
  obtain ⟨hct, hkeeps⟩ := directiveRound_of_outdoor (w := w) hr
  have hrole := (directiveRound_role w s).trans hr
  have hx := exec_handedOn hw
  generalize directiveRound (adopted w s) = x at *
  have hround : roleRound s.zone.settings x = outdoorRound x := by rw [roleRound, hrole]
  obtain ⟨hpending, htarget⟩ := outdoorRound_targets x
  obtain ⟨hchannel, hfan, htimer, hothers⟩ := outdoorRound_outputs x
  rw [hview] at hpending
  refine ⟨_, hx.trans (congrArg Host.Outcome.next hround), ?_⟩
  intro m f o share peak forced wanted
  refine ⟨hpending.trans (capacityTarget_eq ..), htarget.trans hct, fun hno => ?_⟩
  obtain ⟨ho, hout, htimers⟩ := hkeeps hno
  have hcomp : x.outdoor.comp = o.comp := (congrArg Outdoor.comp ho :)
  have hside : x.outdoor.side = o.side := (congrArg Outdoor.side ho :)
  have hforced : forcesStop x = true ↔ forced := by
    rw [forcesStop, Bool.and_eq_true, hcomp, hside, roundForcesStop_iff]
    exact Iff.rfl
  have hmachine := roundMachine_eq ho hforced
  have hstops : roundChannel x = if forced then ⟨0, 0, false⟩ else s.out.compressor := by
    rw [← hout]
    exact if_congr hforced rfl rfl
  rw [← outdoorRound_o] at hmachine
  rw [hout, htimers] at hfan htimer
  rw [hout] at hothers
  exact ⟨hmachine, hchannel.trans hstops, hfan, htimer, hothers⟩

end Sys2Proof.Machine


/-! O60. LOCKOUT, operation by operation: what keeps it, and the three that can clear it. -/

namespace Sys2Proof.Machine

/-- LOCKOUT, once set, is still set. -/
def KeepsLockout (s t : State) : Prop := s.outdoor.lockout = true → t.outdoor.lockout = true

theorem KeepsLockout.of_eq {s t : State} (h : t.outdoor.lockout = s.outdoor.lockout) : KeepsLockout s t :=
  fun hs => h.trans hs

theorem KeepsLockout.guarded {p : Prop} [Decidable p] {s t : State} (h : p → KeepsLockout s t) :
    KeepsLockout s (if p then t else s) := by
  by_cases hp : p
  · rw [if_pos hp]
    exact h hp
  · rw [if_neg hp]
    exact id

/-! ### What keeps it (R159) -/

theorem roleRound_lockout (z : Settings) (s : State) : (roleRound z s).outdoor.lockout = s.outdoor.lockout := by
  unfold roleRound
  cases s.role with
  | outdoor => exact outdoorRound_lockout s
  | _ => rfl

theorem roleTick_lockout (s : State) : (roleTick s).outdoor.lockout = s.outdoor.lockout := by
  unfold roleTick
  cases s.role with
  | outdoor => exact outdoorTick_lockout s
  | _ => rfl

theorem roleRoundStart_lockout (s : State) : (roleRoundStart s).outdoor.lockout = s.outdoor.lockout := by
  unfold roleRoundStart
  cases s.role <;> rfl

theorem enterIsolated_lockout (clash : Bool) (s : State) :
    (enterIsolated clash s).outdoor.lockout = s.outdoor.lockout := by
  unfold enterIsolated roleSafe
  dsimp only
  split
  · rfl
  · rfl
  · exact outdoorSafe_lockout _
  · rfl

theorem secondTick_lockout (s : State) : (secondTick s).outdoor.lockout = s.outdoor.lockout := by
  unfold secondTick
  split_ifs
  · exact roleTick_lockout (consumed s)
  · rfl
  · rfl

theorem secondTickFor_keepsLockout (c : Bool) (s : State) : KeepsLockout s (secondTickFor c s) :=
  .guarded fun _ => .of_eq (secondTick_lockout s)

/-- A decision that is not accepted hands nothing on, and leaves LOCKOUT (R37, R162). -/
theorem takeDecision_keepsLockout {v : Verdict} (hv : v.isAccepted = false) (w : View) (s : State) :
    KeepsLockout s (takeDecision v w s) := by
  refine .of_eq ?_
  obtain ⟨-, ht⟩ | ⟨-, -, ht⟩ | ⟨-, -, -, ht⟩ | ⟨-, ha, -⟩ | ⟨_, _, _, ht, -⟩ := takeDecision_cases v w s
  · rw [ht]
  · rw [ht]
    exact enterIsolated_lockout true _
  · rw [ht]
    exact enterIsolated_lockout false _
  · exact absurd (ha.symm.trans hv) (by decide)
  · rw [ht]
    rfl

/-- A trip sets LOCKOUT or leaves it (R159). -/
theorem takeTripSample_keepsLockout (active : Bool) (s : State) : KeepsLockout s (takeTripSample active s) := by
  unfold takeTripSample
  split_ifs
  · exact id
  · unfold tripChanged
    split
    · intro hs
      show Outdoor.lockout (Plant.o (if _ then _ else _)) = true
      split
      · have hmachine : (Plant.tripMachine
            { s.plant with
              out := { s.out.stopCompressor with tripActive := active, tripRun := 0, tripHold := true } }).o.lockout =
              s.outdoor.lockout := by
          unfold Plant.tripMachine
          split <;> rfl
        exact Bool.or_eq_true_iff.mpr (.inl (hmachine.trans hs))
      · rw [untrip_lockout]
        exact hs
    · exact id
    · exact id
    · exact id
  · exact id

/-- Of the directives only CLEAR_TRIP reaches LOCKOUT (R160). -/
theorem codeEffect_lockout {c : Code} (hc : c ≠ .clearTrip) (arg : Byte) (s : State) :
    (c.effect arg s).1.outdoor.lockout = s.outdoor.lockout := by
  cases c with
  | clearTrip => exact absurd rfl hc
  | zoneSet =>
    simp only [Code.effect, effectZoneSet]
    split <;> rfl
  | testDamper =>
    show (rehome s).outdoor.lockout = _
    unfold rehome
    split <;> rfl
  | forceDefrost =>
    simp only [Code.effect, effectForceDefrost]
    split <;> rfl
  | _ => rfl

/-! ### What clears it (R160, R163, and the opening of chapter 9) -/

/-- The release of a reset clears LOCKOUT where its kind is SUPPLY, and nowhere else (R163, R185). -/
theorem releaseReset_clears {s : State} (h : s.outdoor.lockout = true) (h' : (releaseReset s).outdoor.lockout = false) :
    s.rst.state = .asserted ∧ s.rst.kind = .supply ∧ (releaseReset s).rst.state = .settling := by
  unfold releaseReset at *
  split at h'
  · next hrel =>
    rw [if_pos hrel]
    refine ⟨hrel.1, ?_, rfl⟩
    cases hk : s.rst.kind with
    | supply => rfl
    | pin =>
      change (kindValues s).outdoor.lockout = false at h'
      rw [kindValues, hk] at h'
      exact absurd (h.symm.trans h') (by decide)
  · exact absurd (h.symm.trans h') (by decide)

theorem takeSupplySample_clears {mv : Nat} {s : State} (h : s.outdoor.lockout = true)
    (h' : (takeSupplySample mv s).outdoor.lockout = false) :
    s.rst.state = .asserted ∧ s.rst.kind = .supply ∧ (takeSupplySample mv s).rst.state = .settling := by
  have hkept (hx : s.outdoor.lockout = false) : False := Bool.noConfusion (h.symm.trans hx)
  unfold takeSupplySample at *
  split_ifs at h' ⊢
  · exact releaseReset_clears (by exact h) h'
  · exact (hkept h').elim
  · exact (hkept h').elim
  · exact (hkept h').elim
  · exact (hkept h').elim

/-- The directive unit clears LOCKOUT at the third reception of CLEAR_TRIP by an outdoor station, and nowhere else (R160,
R177). -/
theorem directiveRound_clears {s : State} (h : s.outdoor.lockout = true)
    (h' : (directiveRound s).outdoor.lockout = false) :
    ∃ d, unpackDirective s.health.view.directive = some d ∧ d.addressedTo s.rst.address = true ∧
      (s.dir.tracker.update (some d)).count = 3 ∧ (s.dir.tracker.update (some d)).executed = none ∧
      d.code = 0x3E ∧ s.role = .outdoor := by
  have hall : (directiveRound s).outdoor.lockout = true ∨
      ∃ d, unpackDirective s.health.view.directive = some d ∧ d.addressedTo s.rst.address = true ∧
        (s.dir.tracker.update (some d)).count = 3 ∧ (s.dir.tracker.update (some d)).executed = none ∧
        d.code = 0x3E ∧ s.role = .outdoor := by
    refine directiveRound_induct (P := fun t => t.outdoor.lockout = true ∨ _) (fun dir => .inl h)
      fun d c dir dir' hf hto hcount hfirst hcode hrole => ?_
    by_cases hc : c = .clearTrip
    · subst hc
      exact .inr ⟨d, hf, hto, hcount, hfirst, (number_of_codeOf hcode).symm, of_decide_eq_true hrole⟩
    · exact .inl ((codeEffect_lockout hc d.arg { s with dir := dir }).trans h)
  exact hall.resolve_left fun hx => Bool.noConfusion (hx.symm.trans h')

/-- An accepted round clears LOCKOUT at the third reception of CLEAR_TRIP, and nowhere else (R160, R177). -/
theorem roundEnd_clears {w : Window} {s t : State} (ha : EndsAccepted w s) (hx : exec (.roundEnd w) s = .next t)
    (h : s.outdoor.lockout = true) (h' : t.outdoor.lockout = false) :
    ∃ d, ThirdReception d w s ∧ d.code = 0x3E ∧ s.role = .outdoor := by
  rw [exec_roundEnd_accepted ha] at hx
  cases hx
  have hkept {u : State} (hu : u.outdoor.lockout = s.outdoor.lockout) (hx : u.outdoor.lockout = false) : False :=
    Bool.noConfusion (h.symm.trans (hu.symm.trans hx))
  obtain ⟨-, ht⟩ | ⟨-, -, ht⟩ | ⟨-, hv, -⟩ | ⟨-, -, -, j, i, -, ht⟩ | ⟨_, _, _, ht, -⟩ :=
    takeDecision_cases .accepted (viewOf w.data) (s.windowRead w)
  · rw [ht] at h'
    exact (hkept rfl h').elim
  · rw [ht] at h'
    exact (hkept (enterIsolated_lockout true (decideRound .accepted (viewOf w.data) (s.windowRead w))) h').elim
  · cases hv
  · rw [ht, handOn, roleRound_lockout] at h'
    obtain ⟨d, hf, hto, hcount, hfirst, hcode, hrole⟩ := directiveRound_clears (by exact h) h'
    have htracker : (decideRound .accepted (viewOf w.data) (s.windowRead w)).dir.tracker = s.dir.tracker :=
      decideRound_tracker ..
    change ((decideRound .accepted (viewOf w.data) (s.windowRead w)).dir.tracker.update (some d)).count = 3 at hcount
    change ((decideRound .accepted (viewOf w.data) (s.windowRead w)).dir.tracker.update (some d)).executed = none at hfirst
    rw [htracker] at hcount hfirst
    obtain ⟨hlast, htwo, hnone⟩ := (tracker_third_iff d s.dir.tracker).mp ⟨hcount, hfirst⟩
    exact ⟨d, ⟨hf, hlast, htwo, hnone, of_decide_eq_true (by exact hto)⟩, hcode, hrole⟩
  · rw [ht] at h'
    exact (hkept rfl h').elim

/-- A directive row but CLEAR_TRIP leaves LOCKOUT. -/
theorem runDirective_keepsLockout {c : Code} (hc : c ≠ .clearTrip) (source dest : Nibble) (arg : Byte) (s : State) :
    KeepsLockout s (runDirective c source dest arg s) := by
  refine .guarded fun _ => .of_eq ?_
  rw [oweReply_outdoor]
  obtain ⟨c', hc', he⟩ | ⟨-, he⟩ := execute_cases ⟨source, dest, c.number, arg⟩ s
  · have hcode : c' = c := by
      have hn := (acceptedCode_some hc').1
      exact Option.some.inj (hn.symm.trans (codeOf_number c))
    rw [he, hcode]
    exact codeEffect_lockout hc arg s
  · rw [he]

theorem directiveRow_keepsLockout {c : Code} {source dest : Nibble} {arg : Byte} {s t : State} (hc : c ≠ .clearTrip)
    (h : exec (c.row source dest arg) s = .next t) : KeepsLockout s t := by
  rw [exec_row] at h
  cases h
  exact runDirective_keepsLockout hc source dest arg s

theorem tickRow_keepsLockout {row : Instr} {b : Bool} {s t : State} (hx : exec row s = .next (secondTickFor b s))
    (h : exec row s = .next t) : KeepsLockout s t := by
  rw [hx] at h
  cases h
  exact secondTickFor_keepsLockout b s

/-- The row CLEAR_TRIP clears LOCKOUT of an outdoor station that hears it, and of no other (R160). -/
theorem clearTrip_clears {source dest : Nibble} {arg : Byte} {s : State} (h : s.outdoor.lockout = true)
    (h' : (runDirective .clearTrip source dest arg s).outdoor.lockout = false) :
    Heard source dest s ∧ s.role = .outdoor := by
  unfold runDirective at h'
  dsimp only at h'
  split at h'
  · next hheard =>
    refine ⟨⟨hheard.1, hheard.2.1, of_decide_eq_true hheard.2.2⟩, ?_⟩
    rw [oweReply_outdoor] at h'
    obtain ⟨c, hc, -⟩ | ⟨-, he⟩ := execute_cases ⟨source, dest, Code.number .clearTrip, arg⟩ s
    · obtain ⟨hcode, hrole, -⟩ := acceptedCode_some hc
      have hclear : c = .clearTrip := Option.some.inj (hcode.symm.trans (codeOf_number .clearTrip))
      rw [hclear] at hrole
      exact of_decide_eq_true hrole
    · rw [he] at h'
      exact absurd (h.symm.trans h') (by decide)
  · exact absurd (h.symm.trans h') (by decide)

/-- The commands that can clear LOCKOUT. -/
def mayClearLockout : Instr → Bool
  | .clearTrip _ _ _ => true
  | .roundEnd _ => true
  | .settleTimer _ _ => true
  | .supplySample _ => true
  | .supplyMonitorReset => true
  | .supplyMonitorRelease => true
  | .resetPinHigh => true
  | .chordResetRelease => true
  | _ => false

/-- Every other command leaves LOCKOUT set. -/
theorem exec_keepsLockout {c : Instr} {s t : State} (hc : mayClearLockout c = false) (h : exec c s = .next t) :
    KeepsLockout s t := by
  cases c with
  | clearTrip => cases hc
  | roundEnd => cases hc
  | settleTimer => cases hc
  | supplySample => cases hc
  | supplyMonitorReset => cases hc
  | supplyMonitorRelease => cases hc
  | resetPinHigh => cases hc
  | chordResetRelease => cases hc
  | powerOn => cases h; exact id
  | resetPinLow => cases h; dsimp only; split <;> exact id
  | chordReset => cases h; exact .guarded fun _ => id
  | roundTimerPa => cases h; exact .guarded fun _ => .of_eq (by simp [paExpiry_outdoor, elapseTo])
  | syncMarkRelease => cases h; exact .guarded fun _ => id
  | noiseRunEnd bits =>
    cases h
    refine .guarded fun _ => ?_
    split
    · split
      · exact id
      · exact .of_eq (by simp [elapseTo])
    · exact id
  | syncRecognised data frame =>
    cases h
    refine .guarded fun _ => ?_
    dsimp only
    split
    · exact fun hs => takeDecision_keepsLockout rfl _ _ hs
    · exact id
  | roundStart => cases h; exact .guarded fun _ => .of_eq (roleRoundStart_lockout _)
  | missingRound => cases h; exact .guarded fun _ hs => takeDecision_keepsLockout rfl _ _ hs
  | silenceEvent =>
    cases h
    refine .guarded fun _ => ?_
    dsimp only
    split
    · exact id
    · exact .of_eq (by simp [elapseTo])
  | isolationTimerExpiry => cases h; exact .guarded fun _ => id
  | setCool => exact directiveRow_keepsLockout (c := .setCool) nofun h
  | setHeat => exact directiveRow_keepsLockout (c := .setHeat) nofun h
  | setHumid => exact directiveRow_keepsLockout (c := .setHumid) nofun h
  | zoneSet => exact directiveRow_keepsLockout (c := .zoneSet) nofun h
  | read => exact directiveRow_keepsLockout (c := .read) nofun h
  | testDamper => exact directiveRow_keepsLockout (c := .testDamper) nofun h
  | testBlower => exact directiveRow_keepsLockout (c := .testBlower) nofun h
  | testSpeed => exact directiveRow_keepsLockout (c := .testSpeed) nofun h
  | forceDefrost => exact directiveRow_keepsLockout (c := .forceDefrost) nofun h
  | corruptCheck => exact directiveRow_keepsLockout (c := .corruptCheck) nofun h
  | muteCount => exact directiveRow_keepsLockout (c := .muteCount) nofun h
  | normal => exact directiveRow_keepsLockout (c := .normal) nofun h
  | secondTick => cases h; exact .of_eq (secondTick_lockout s)
  | ringEmptied => exact tickRow_keepsLockout rfl h
  | coldBlowHoldEnd => exact tickRow_keepsLockout rfl h
  | coilFrostChange => exact tickRow_keepsLockout rfl h
  | supplyHotChange => exact tickRow_keepsLockout rfl h
  | auxHeatOn => exact tickRow_keepsLockout rfl h
  | normalStop => exact tickRow_keepsLockout rfl h
  | frostStop => exact tickRow_keepsLockout rfl h
  | minOffEnd => exact tickRow_keepsLockout rfl h
  | defrostEntry => exact tickRow_keepsLockout rfl h
  | defrostEnd => exact tickRow_keepsLockout rfl h
  | dripEnd => exact tickRow_keepsLockout rfl h
  | tripAgeExpiry => exact tickRow_keepsLockout rfl h
  | captureRisingEdge ch n => cases h; dsimp only; split <;> [exact id; cases ch <;> exact id]
  | captureFallingEdge ch n => cases h; dsimp only; split <;> [exact id; cases ch <;> exact id]
  | periodAbandoned ch => cases h; exact .guarded fun _ => by cases ch <;> exact id
  | keySample x => cases h; exact .guarded fun _ => .of_eq (by simp)
  | keyPress k x => cases h; exact .guarded fun _ => .of_eq (by simp)
  | keyRelease k x => cases h; exact .guarded fun _ => .of_eq (by simp)
  | modePressRecognition x => cases h; exact .guarded fun _ => .of_eq (by simp)
  | modeShortPress x => cases h; exact .guarded fun _ => .of_eq (by simp)
  | modeLongPress => cases h; exact .guarded fun _ => id
  | damperPulse => cases h; exact .guarded fun _ => id
  | stall => cases h; exact .guarded fun _ => id
  | pauseEnd => cases h; exact .guarded fun _ => id
  | retryEnd => cases h; exact .guarded fun _ => id
  | homingTimeout => cases h; exact .guarded fun _ => id
  | tripInputSample high => cases h; exact .guarded fun _ hs => takeTripSample_keepsLockout _ _ hs
  | tripFilterChange => cases h; exact .guarded fun _ hs => takeTripSample_keepsLockout _ _ hs
  | pwmPeriodEnd ch => cases h; exact .guarded fun _ => by cases ch <;> exact id
  | hbridgePeriodStart => cases h; exact .guarded fun _ => id
  | switchedIntervalEnd l => cases h; cases l <;> exact id
  | blinkClock => cases h; exact .guarded fun _ => id
  | dominantRunLeadingEdge => cases h; dsimp only; split <;> exact id

/-- A release by a source clears LOCKOUT where the kind is SUPPLY (R163, R185). -/
theorem guarded_clears {p : Prop} [Decidable p] {s u : State} {Q : State → Prop} (h : s.outdoor.lockout = true)
    (h' : (if p then u else s).outdoor.lockout = false) (hu : u.outdoor.lockout = false → Q u) :
    Q (if p then u else s) := by
  by_cases hp : p
  · rw [if_pos hp] at h' ⊢
    exact hu h'
  · rw [if_neg hp] at h'
    exact absurd (h.symm.trans h') (by decide)

/-- A round that does not end accepted leaves LOCKOUT (R37). -/
theorem roundEnd_keepsLockout {w : Window} {s t : State} (ha : ¬ EndsAccepted w s)
    (h : exec (.roundEnd w) s = .next t) : KeepsLockout s t := by
  by_cases hr : s.line.rx.inRound = true
  · have hbad := endsBad_of_not_accepted hr ha
    rw [exec_bad hbad] at h
    cases h
    exact takeDecision_keepsLockout (verdictAt_bad hbad).1 _ (s.readAt (.roundEnd w))
  · have hs : exec (.roundEnd w) s = .next s := congrArg Host.Outcome.next (if_neg hr)
    rw [hs] at h
    cases h
    exact id

/-- The straps of a ZONE or HANDLER station clear LOCKOUT, and no others (chapter 9). -/
theorem settleTimer_clears {a p : Nibble} {s : State} (h : s.outdoor.lockout = true)
    (h' : (if s.rst.state = .settling then latchStraps a p (elapseTo s.timers.settle Config.settleUs s)
      else s).outdoor.lockout = false) : s.rst.state = .settling ∧ 2 ≤ a.toNat ∧ a.toNat ≤ 14 := by
  by_cases hs : s.rst.state = .settling
  · rw [if_pos hs, latchStraps_outdoor_address] at h'
    by_cases ha : 2 ≤ a.toNat ∧ a.toNat ≤ 14
    · exact ⟨hs, ha⟩
    · rw [if_neg ha] at h'
      exact absurd (h.symm.trans h') (by decide)
  · rw [if_neg hs] at h'
    exact absurd (h.symm.trans h') (by decide)

/-- Settles O60: the eight commands that can clear LOCKOUT, each by the operation that does. -/
theorem onlyTheseClearLockout : Obligations.OnlyTheseClearLockout := by
  intro c s t hs hx ht
  by_cases hc : mayClearLockout c = false
  · exact absurd ((exec_keepsLockout hc hx hs).symm.trans ht) (by decide)
  · cases c with
    | clearTrip src dst arg =>
      cases hx
      exact .inl ⟨src, dst, arg, rfl, clearTrip_clears hs ht⟩
    | roundEnd w =>
      by_cases ha : EndsAccepted w s
      · obtain ⟨d, hthird, hcode, hrole⟩ := roundEnd_clears ha hx hs ht
        exact .inr (.inl ⟨w, d, rfl, ha, hthird, hcode, hrole⟩)
      · exact absurd ((roundEnd_keepsLockout ha hx hs).symm.trans ht) (by decide)
    | settleTimer a p =>
      cases hx
      exact .inr (.inr (.inr ⟨a, p, rfl, settleTimer_clears hs ht⟩))
    | supplySample mv =>
      cases hx
      exact .inr (.inr (.inl (takeSupplySample_clears (by exact hs) ht)))
    | supplyMonitorReset =>
      cases hx
      exact .inr (.inr (.inl (guarded_clears hs ht
        (Q := fun u => s.rst.state = .asserted ∧ s.rst.kind = .supply ∧ u.rst.state = .settling)
        fun hu => takeSupplySample_clears (by exact hs) hu)))
    | supplyMonitorRelease =>
      cases hx
      exact .inr (.inr (.inl (guarded_clears hs ht
        (Q := fun u => s.rst.state = .asserted ∧ s.rst.kind = .supply ∧ u.rst.state = .settling)
        fun hu => takeSupplySample_clears (by exact hs) hu)))
    | resetPinHigh =>
      cases hx
      exact .inr (.inr (.inl (guarded_clears hs ht
        (Q := fun u => s.rst.state = .asserted ∧ s.rst.kind = .supply ∧ u.rst.state = .settling)
        fun hu => releaseReset_clears (by exact hs) hu)))
    | chordResetRelease =>
      cases hx
      exact .inr (.inr (.inl (guarded_clears hs ht
        (Q := fun u => s.rst.state = .asserted ∧ s.rst.kind = .supply ∧ u.rst.state = .settling)
        fun hu => releaseReset_clears (by exact hs) hu)))
    | _ => exact absurd rfl hc

end Sys2Proof.Machine


/-! O2. No operation reads or changes the queue of commands that wait: each commutes with replacing the queue. -/

namespace Sys2Proof.Machine

/-- The station with another queue of commands that wait. -/
def State.queued (q : List Instr) (s : State) : State := { s with pending := q }

/-- The operation neither reads nor changes the queue: it commutes with replacing it. -/
def Blind (f : State → State) : Prop := ∀ q s, f (s.queued q) = (f s).queued q

theorem Blind.comp {f g : State → State} (hg : Blind g) (hf : Blind f) : Blind fun s => g (f s) :=
  fun q s => (congrArg g (hf q s)).trans (hg q (f s))

/-- A branch on what is not the queue. -/
theorem Blind.ite {p : State → Prop} {_ : DecidablePred p} {f g : State → State} (hp : ∀ q s, p (s.queued q) = p s)
    (hf : Blind f) (hg : Blind g) : Blind fun s => if p s then f s else g s := by
  intro q s
  by_cases h : p s
  · have h' : p (s.queued q) := (hp q s).symm ▸ h
    dsimp only
    rw [if_pos h, if_pos h']
    exact hf q s
  · have h' : ¬ p (s.queued q) := (hp q s).symm ▸ h
    dsimp only
    rw [if_neg h, if_neg h']
    exact hg q s

/-- An operation that ends in another one, of the state that it has set up first. -/
theorem Blind.after {g : State → State} (hg : Blind g) (f : State → State) (hf : Blind f) : Blind fun s => g (f s) :=
  hg.comp hf

theorem Blind.id : Blind fun s => s := fun _ _ => rfl

/-- An operation of the role's, whichever it is. -/
theorem Blind.byRole {f z h o a : State → State} (hf : ∀ s, f s = match s.role with
      | .zone => z s
      | .handler => h s
      | .outdoor => o s
      | .absent => a s) (hz : Blind z) (hh : Blind h) (ho : Blind o) (ha : Blind a) : Blind f := by
  intro q s
  have hr : (s.queued q).role = s.role := rfl
  rw [hf, hf, hr]
  cases s.role with
  | zone => exact hz q s
  | handler => exact hh q s
  | outdoor => exact ho q s
  | absent => exact ha q s

theorem paExpiry_blind : Blind paExpiry := .ite (fun _ _ => rfl) (fun _ _ => rfl) (fun _ _ => rfl)

theorem roleRound_blind (z : Settings) : Blind (roleRound z) :=
  .byRole (fun _ => rfl) (fun _ _ => rfl) (fun _ _ => rfl) (fun _ _ => rfl) .id

theorem roleTick_blind : Blind roleTick :=
  .byRole (fun _ => rfl) (fun _ _ => rfl) (fun _ _ => rfl) (fun _ _ => rfl) .id

/-! ### Decisions and accepted rounds -/

theorem roleSafe_blind : Blind roleSafe :=
  .byRole (fun _ => rfl) (fun _ _ => rfl) (fun _ _ => rfl) (fun _ _ => rfl) .id

theorem roleRoundStart_blind : Blind roleRoundStart :=
  .byRole (fun _ => rfl) (fun _ _ => rfl) (fun _ _ => rfl) (fun _ _ => rfl) .id

theorem enterIsolated_blind (clash : Bool) : Blind (enterIsolated clash) :=
  roleSafe_blind.after (fun s =>
    { s with
      line := { s.line with permission := false }
      asm := { s.asm with image := none }
      health := s.health.isolate clash
      coll := ⟨.rest, .rest⟩
      zone := { s.zone with served := false }
      dir := s.dir.isolate
      timers := { s.timers with mark := .stopped, isolation := if clash then .stopped else .started } })
    fun _ _ => rfl

theorem rehome_blind : Blind rehome := .ite (fun _ _ => rfl) (fun _ _ => rfl) .id

/-- A directive's effect answers the same data, whatever waits. -/
theorem codeEffect_queued (c : Code) (arg : Byte) (q : List Instr) (s : State) :
    c.effect arg (s.queued q) = ((c.effect arg s).1.queued q, (c.effect arg s).2) := by
  cases c with
  | zoneSet =>
    show effectZoneSet arg (s.queued q) = ((effectZoneSet arg s).1.queued q, (effectZoneSet arg s).2)
    unfold effectZoneSet
    cases settingOfCode arg.toNat <;> rfl
  | testDamper => exact congrArg (fun u => (latchRole (limitDamperArg arg) u, some (limitDamperArg arg))) (rehome_blind q s)
  | forceDefrost =>
    show effectForceDefrost (s.queued q) = ((effectForceDefrost s).1.queued q, (effectForceDefrost s).2)
    unfold effectForceDefrost
    by_cases h : forceDefrostOk s.mode s.outdoor = true
    · have h' : forceDefrostOk (s.queued q).mode (s.queued q).outdoor = true := h
      rw [if_pos h, if_pos h']
      rfl
    · have h' : ¬ forceDefrostOk (s.queued q).mode (s.queued q).outdoor = true := h
      rw [if_neg h, if_neg h']
  | _ => rfl

theorem execute_blind (d : Directive) : Blind (execute d) := by
  intro q s
  have hcarry : carryOut d (s.queued q) = ((carryOut d s).1.queued q, (carryOut d s).2) := by
    have hr : (s.queued q).role = s.role := rfl
    unfold carryOut
    rw [hr]
    cases acceptedCode s.role d with
    | none => rfl
    | some c => exact codeEffect_queued c d.arg q s
  unfold execute
  rw [hcarry]
  rfl

theorem directiveRound_blind : Blind directiveRound := by
  intro q s
  have hfield : (s.queued q).health.view.directive = s.health.view.directive := rfl
  unfold directiveRound
  rw [hfield]
  cases unpackDirective s.health.view.directive with
  | none => rfl
  | some d =>
    exact Blind.ite
      (p := fun s => (s.dir.tracker.update (some d)).count = 3 ∧ (s.dir.tracker.update (some d)).executed = none ∧
        d.addressedTo s.rst.address)
      (f := fun s => oweReply d (execute d { s with dir := { s.dir with tracker := s.dir.tracker.update (some d) } }))
      (g := fun s => oweReply d { s with dir := { s.dir with tracker := s.dir.tracker.update (some d) } })
      (fun _ _ => rfl) (fun q s => congrArg (oweReply d)
        (execute_blind d q { s with dir := { s.dir with tracker := s.dir.tracker.update (some d) } }))
      (fun _ _ => rfl) q s

theorem runDirective_blind (c : Code) (source dest : Nibble) (arg : Byte) : Blind (runDirective c source dest arg) :=
  .ite (fun _ _ => rfl) (fun q s => congrArg (oweReply _) (execute_blind _ q s)) .id

theorem handOn_blind : Blind handOn := by
  intro q s
  have hdir : directiveRound { s.queued q with coll := s.coll.round s.health.view s.health.plant } =
      (directiveRound { s with coll := s.coll.round s.health.view s.health.plant }).queued q :=
    directiveRound_blind q { s with coll := s.coll.round s.health.view s.health.plant }
  exact (congrArg (roleRound s.zone.settings) hdir).trans (roleRound_blind s.zone.settings q _)

theorem listenMove_blind (v : Verdict) : Blind (listenMove v) :=
  .ite (fun _ _ => rfl) (.ite (fun _ _ => rfl)
    (handOn_blind.after (fun s =>
      { s with health := { s.health.join with joining := 0 }, asm := { s.asm with index := s.health.view.idx } })
      fun _ _ => rfl)
    (fun _ _ => rfl)) (fun _ _ => rfl)

theorem joinedMove_blind (v : Verdict) : Blind (joinedMove v) :=
  .ite (fun _ _ => rfl) (handOn_blind.after (fun s => { s with health := s.health.join }) fun _ _ => rfl)
    (.ite (fun _ _ => rfl) (fun _ _ => rfl) (fun _ _ => rfl))

theorem holdoverMove_blind (v : Verdict) : Blind (holdoverMove v) :=
  .ite (fun _ _ => rfl) (handOn_blind.after (fun s => { s with health := s.health.join }) fun _ _ => rfl)
    (.ite (fun _ _ => rfl) (enterIsolated_blind false) (fun _ _ => rfl))

theorem linkMove_blind (v : Verdict) : Blind (linkMove v) := by
  intro q s
  have hlink : (s.queued q).health.link = s.health.link := rfl
  unfold linkMove
  rw [hlink]
  cases s.health.link with
  | listen => exact listenMove_blind v q s
  | joined => exact joinedMove_blind v q s
  | holdover => exact holdoverMove_blind v q s
  | isolated => rfl
  | quiet => rfl

theorem takeDecision_blind (v : Verdict) (w : View) : Blind (takeDecision v w) := by
  have hmove : Blind fun s => if clashes v s then enterIsolated true s else linkMove v s :=
    .ite (fun _ _ => rfl) (enterIsolated_blind true) (linkMove_blind v)
  have hdecide : Blind (decideRound v w) := fun _ _ => rfl
  exact .ite (fun _ _ => rfl) (hmove.comp hdecide) .id

/-! ### Reset and start -/

theorem kindValues_blind : Blind kindValues := by
  intro q s
  have hkind : (s.queued q).rst.kind = s.rst.kind := rfl
  unfold kindValues
  rw [hkind]
  cases s.rst.kind <;> rfl

theorem releaseReset_blind : Blind releaseReset :=
  .ite (fun _ _ => rfl)
    (fun q s => congrArg
      (fun u : State => { u with rst := { s.rst with state := .settling }, timers := s.timers.atRelease })
      (kindValues_blind q s)) .id

theorem takeSupplySample_blind (mv : Nat) : Blind (takeSupplySample mv) :=
  .ite (fun _ _ => rfl) (.ite (fun _ _ => rfl) (releaseReset_blind.after
    (fun s => { s with rst := { s.rst with powerOn := false, monitor := false, lowCount := 0 } }) fun _ _ => rfl) .id)
    (.ite (fun _ _ => rfl) (.ite (fun _ _ => rfl) (fun _ _ => rfl) (fun _ _ => rfl)) (fun _ _ => rfl))

theorem supplySample_blind (mv : Nat) : Blind (supplySample mv) :=
  (takeSupplySample_blind mv).after (fun s =>
    { elapseTo s.timers.supplyClock Config.supplySampleUs s with
      timers := { (elapseTo s.timers.supplyClock Config.supplySampleUs s).timers with supplyClock := .started } })
    fun _ _ => rfl

theorem startRole_blind : Blind startRole :=
  .byRole (fun _ => rfl) (fun _ _ => rfl) (fun _ _ => rfl) (fun _ _ => rfl) .id

theorem clearForeignTrips_blind : Blind clearForeignTrips :=
  .byRole (fun _ => rfl) (fun _ _ => rfl) (fun _ _ => rfl) .id .id

theorem startKeys_blind : Blind startKeys := .ite (fun _ _ => rfl) (fun _ _ => rfl) .id

theorem latchStraps_blind (a p : Nibble) : Blind (latchStraps a p) := by
  have hlatch : Blind fun s => startKeys (clearForeignTrips
      { s with
        rst := { s.rst with address := a, parameter := p, state := if strapsPass a p then .checked else .failed }
        timers := { s.timers with settle := .stopped } }) :=
    startKeys_blind.after _ (clearForeignTrips_blind.after (fun s =>
      { s with
        rst := { s.rst with address := a, parameter := p, state := if strapsPass a p then .checked else .failed }
        timers := { s.timers with settle := .stopped } }) fun _ _ => rfl)
  have hstart : Blind fun s => startRole (startMeasurement (enterListen s)) :=
    startRole_blind.after (fun s => startMeasurement (enterListen s)) fun _ _ => rfl
  exact Blind.ite (fun _ _ => rfl) (hstart.comp hlatch) hlatch

/-! ### Line, keys, ticks and outputs -/

theorem lonePacer_blind : Blind lonePacer := 
  paExpiry_blind.after (fun s =>
    { s with
      line := { s.line with silenceWaits := false }
      asm := { s.asm with index := 15 }
      health := { s.health with link := .joined, badRun := 0 }
      coll := ⟨.rest, .rest⟩
      timers := { s.timers with round := ⟨true, s.paUs⟩ } }) fun _ _ => rfl

theorem afterNoise_blind : Blind afterNoise :=
  .ite (fun _ _ => rfl) (fun _ _ => rfl) (.ite (fun _ _ => rfl) lonePacer_blind .id)

theorem cutShort_blind (data : RoundBits) : Blind (cutShort data) := fun q s =>
  takeDecision_blind .incomplete (viewOf (s.cutData data)) q (s.cutRead data)

theorem windowEnd_blind (w : Window) : Blind (windowEnd w) := fun q s =>
  takeDecision_blind (verdictOf (s.line.framing || framingIn w) w.data) (viewOf w.data) q (s.closed w)

theorem roundStart_blind : Blind roundStart :=
  roleRoundStart_blind.after State.roundOpened fun _ _ => rfl

theorem sampleKeys_blind (x : KeySample) : Blind (sampleKeys x) :=  by
  intro q s
  unfold sampleKeys
  cases x.downFirst <;> rfl

theorem secondTick_blind : Blind secondTick :=
  .ite (fun _ _ => rfl) (.ite (fun _ _ => rfl) (fun q s => roleTick_blind q (consumed s)) (fun _ _ => rfl)) .id

theorem secondTickFor_blind {c : State → Bool} (hc : ∀ q s, c (s.queued q) = c s) :
    Blind fun s => secondTickFor (c s) s :=
  .ite (fun q s => congrArg (fun b => (s.timers.second.running && s.started && b) = true) (hc q s)) secondTick_blind .id

theorem tripChanged_blind : Blind tripChanged := by
  intro q s
  have hr : (s.queued q).role = s.role := rfl
  unfold tripChanged
  rw [hr]
  cases s.role <;> rfl

theorem takeTripSample_blind (active : Bool) : Blind (takeTripSample active) :=
  .ite (fun _ _ => rfl) (fun _ _ => rfl) (.ite (fun _ _ => rfl) (tripChanged_blind.after
    (fun s => { s with out := { s.out with tripActive := active, tripRun := 0 } }) fun _ _ => rfl) (fun _ _ => rfl))

theorem tripSample_blind (active : Bool) : Blind (tripSample active) :=
  (takeTripSample_blind active).after (fun s =>
    { elapseTo s.timers.tripClock Config.tripSampleUs s with
      timers := { (elapseTo s.timers.tripClock Config.tripSampleUs s).timers with tripClock := .started } })
    fun _ _ => rfl

theorem endPeriod_blind (c : PwmChannel) : Blind (endPeriod c) := by cases c <;> exact fun _ _ => rfl

theorem endInterval_blind (l : Load) : Blind (endInterval l) := by cases l <;> exact fun _ _ => rfl

end Sys2Proof.Machine


/-! O2, concluded: every command answers a next state in every state, blindly. -/

namespace Sys2Proof.Machine

/-- Time passes whatever waits. -/
theorem elapse_blind (n : Nat) : Blind (elapse n) := fun _ _ => rfl

/-- The row answers a next state in every state, and does not look at the queue. -/
def BlindRow (c : Instr) : Prop := ∃ f : State → State, (∀ s, exec c s = .next (f s)) ∧ Blind f

/-- The rows of the reset block and the straps. -/
theorem resetRows_blind :
    BlindRow .powerOn ∧ (∀ mv, BlindRow (.supplySample mv)) ∧ BlindRow .supplyMonitorReset ∧
      BlindRow .supplyMonitorRelease ∧ BlindRow .resetPinLow ∧ BlindRow .resetPinHigh ∧ BlindRow .chordReset ∧
      BlindRow .chordResetRelease ∧ ∀ a p, BlindRow (.settleTimer a p) := by
  refine ⟨⟨_, fun _ => rfl, fun _ _ => rfl⟩, fun mv => ⟨_, fun _ => rfl, supplySample_blind mv⟩,
    ⟨_, fun _ => rfl, .ite (fun _ _ => rfl) (supplySample_blind 0) .id⟩,
    ⟨_, fun _ => rfl, .ite (fun _ _ => rfl) (supplySample_blind _) .id⟩,
    ⟨_, fun _ => rfl, .ite (fun _ _ => rfl) .id (fun _ _ => rfl)⟩,
    ⟨_, fun _ => rfl, .ite (fun _ _ => rfl) ?_ .id⟩,
    ⟨_, fun _ => rfl, .ite (fun _ _ => rfl) (fun _ _ => rfl) .id⟩,
    ⟨_, fun _ => rfl, .ite (fun _ _ => rfl) ?_ .id⟩,
    fun a p => ⟨_, fun _ => rfl, .ite (fun _ _ => rfl) ?_ .id⟩⟩
  · exact releaseReset_blind.after (fun s => { s with rst := { s.rst with pin := false } }) fun _ _ => rfl
  · exact releaseReset_blind.after (fun s =>
      { elapseTo s.timers.chordHold Config.chordHoldUs s with
        rst := { s.rst with chord := false }
        timers := { (elapseTo s.timers.chordHold Config.chordHoldUs s).timers with chordHold := .stopped } })
      fun _ _ => rfl
  · exact (latchStraps_blind a p).after (fun s => elapseTo s.timers.settle Config.settleUs s) fun _ _ => rfl

/-- The rows of runs, marks and the timers of the line. -/
theorem lineRows_blind :
    BlindRow .dominantRunLeadingEdge ∧ BlindRow .roundTimerPa ∧ BlindRow .syncMarkRelease ∧
      (∀ bits, BlindRow (.noiseRunEnd bits)) ∧ BlindRow .missingRound ∧ BlindRow .silenceEvent ∧
      BlindRow .isolationTimerExpiry := by
  refine ⟨⟨_, fun _ => rfl, .ite (fun _ _ => rfl) .id (fun _ _ => rfl)⟩,
    ⟨_, fun _ => rfl, .ite (fun _ _ => rfl) ?_ .id⟩,
    ⟨_, fun _ => rfl, .ite (fun _ _ => rfl) (fun _ _ => rfl) .id⟩,
    fun bits => ⟨_, fun _ => rfl, .ite (fun _ _ => rfl)
      (.ite (fun _ _ => rfl) (.ite (fun _ _ => rfl) .id ?_) (fun _ _ => rfl)) .id⟩,
    ⟨_, fun _ => rfl, .ite (fun _ _ => rfl) ?_ .id⟩,
    ⟨_, fun _ => rfl, .ite (fun _ _ => rfl) (.ite (fun _ _ => rfl) (fun _ _ => rfl) ?_) .id⟩,
    ⟨_, fun _ => rfl, .ite (fun _ _ => rfl) (fun _ _ => rfl) .id⟩⟩
  · exact paExpiry_blind.after (fun s => elapseTo s.timers.round s.paUs s) fun _ _ => rfl
  · exact afterNoise_blind.after (fun s => runEnds (elapseTo s.timers.run (Config.bitsUs (min bits 11)) s)) fun _ _ => rfl
  · exact (takeDecision_blind .missing .zero).after (fun s =>
      { elapseTo s.timers.round (2 * s.paUs) s with
        line := { (elapseTo s.timers.round (2 * s.paUs) s).line with pace := .ahead }
        timers := { (elapseTo s.timers.round (2 * s.paUs) s).timers with round := .started } }) fun _ _ => rfl
  · exact lonePacer_blind.after (fun s => elapseTo s.timers.round (3 * s.paUs) s) fun _ _ => rfl

/-- The rows that begin, end and cut short a round. -/
theorem roundRows_blind :
    BlindRow .roundStart ∧ (∀ w, BlindRow (.roundEnd w)) ∧ ∀ data frame, BlindRow (.syncRecognised data frame) := by
  refine ⟨⟨_, fun _ => rfl, .ite (fun _ _ => rfl) roundStart_blind .id⟩,
    fun w => ⟨_, fun _ => rfl, .ite (fun _ _ => rfl) ?_ .id⟩,
    fun data frame => ⟨_, fun _ => rfl, .ite (fun _ _ => rfl) (.ite (fun _ _ => rfl) ?_ (fun _ _ => rfl)) .id⟩⟩
  · exact (windowEnd_blind w).after (fun s => elapseTo s.timers.round (Config.bitsUs Config.roundBits) s) fun _ _ => rfl
  · exact (cutShort_blind data).after (fun s => elapseTo s.timers.run (Config.bitsUs Config.syncBits) s) fun _ _ => rfl

/-- The rows of the capture inputs. -/
theorem captureRows_blind (ch : Channel) :
    (∀ n, BlindRow (.captureRisingEdge ch n)) ∧ (∀ n, BlindRow (.captureFallingEdge ch n)) ∧
      BlindRow (.periodAbandoned ch) := by
  cases ch <;>
    exact ⟨fun _ => ⟨_, fun _ => rfl, .ite (fun _ _ => rfl) .id (fun _ _ => rfl)⟩,
      fun _ => ⟨_, fun _ => rfl, .ite (fun _ _ => rfl) .id (fun _ _ => rfl)⟩,
      ⟨_, fun _ => rfl, .ite (fun _ _ => rfl) (fun _ _ => rfl) .id⟩⟩

/-- What a sample recognises at a key does not look at the queue. -/
theorem recognitionAt_queued (q : List Instr) (s : State) (k : Key) (x : KeySample) :
    (s.queued q).recognitionAt k x = s.recognitionAt k x := by
  cases k <;> rfl

/-- The rows of the damper. -/
theorem damperRows_blind :
    BlindRow .damperPulse ∧ BlindRow .stall ∧ BlindRow .pauseEnd ∧ BlindRow .retryEnd ∧ BlindRow .homingTimeout :=
  ⟨⟨_, fun _ => rfl, .ite (fun _ _ => rfl) (fun _ _ => rfl) .id⟩,
    ⟨_, fun _ => rfl, .ite (fun _ _ => rfl) (fun _ _ => rfl) .id⟩,
    ⟨_, fun _ => rfl, .ite (fun _ _ => rfl) (fun _ _ => rfl) .id⟩,
    ⟨_, fun _ => rfl, .ite (fun _ _ => rfl) (fun _ _ => rfl) .id⟩,
    ⟨_, fun _ => rfl, .ite (fun _ _ => rfl) (fun _ _ => rfl) .id⟩⟩

/-- The rows of the output stages and the trip input. -/
theorem outputRows_blind :
    (∀ c, BlindRow (.pwmPeriodEnd c)) ∧ BlindRow .hbridgePeriodStart ∧ (∀ l, BlindRow (.switchedIntervalEnd l)) ∧
      BlindRow .blinkClock ∧ (∀ high, BlindRow (.tripInputSample high)) ∧ BlindRow .tripFilterChange := by
  refine ⟨fun c => ?_, ⟨_, fun _ => rfl, .ite (fun _ _ => rfl) (fun _ _ => rfl) .id⟩, fun l => ?_,
    ⟨_, fun _ => rfl, .ite (fun _ _ => rfl) (fun _ _ => rfl) .id⟩,
    fun high => ⟨_, fun _ => rfl, .ite (fun _ _ => rfl) (fun q s => tripSample_blind _ q s) .id⟩,
    ⟨_, fun _ => rfl, .ite (fun _ _ => rfl) (fun q s => tripSample_blind _ q s) .id⟩⟩
  · cases c <;> exact ⟨_, fun _ => rfl, .ite (fun _ _ => rfl) (fun _ _ => rfl) .id⟩
  · cases l <;> exact ⟨_, fun _ => rfl, fun _ _ => rfl⟩

/-- The condition of a row that names a second tick does not look at the queue. -/
theorem tickRow_blind {c : Instr} {p : State → Bool} (hrow : ∀ s, exec c s = .next (secondTickFor (p s) s))
    (hp : ∀ q s, p (s.queued q) = p s) : BlindRow c :=
  ⟨_, hrow, secondTickFor_blind hp⟩

/-- A directive row does not look at the queue. -/
theorem directiveRow_blind {i : Instr} {c : Code} {source dest : Nibble} {arg : Byte}
    (hrow : ∀ s, exec i s = .next (runDirective c source dest arg s)) : BlindRow i :=
  ⟨_, hrow, runDirective_blind c source dest arg⟩

/-- No row reads or changes the queue (notes/assumptions/1, 23). -/
theorem exec_blind (c : Instr) : BlindRow c := by
  obtain ⟨hpower, hsupply, hmonOn, hmonOff, hpinLow, hpinHigh, hchord, hchordOff, hsettle⟩ := resetRows_blind
  obtain ⟨hedge, hpa, hmark, hnoise, hmissing, hsilence, hisolation⟩ := lineRows_blind
  obtain ⟨hstart, hend, hsync⟩ := roundRows_blind
  obtain ⟨hpulse, hstall, hpause, hretry, hhoming⟩ := damperRows_blind
  obtain ⟨hpwm, hbridge, hinterval, hblink, htrip, hfilter⟩ := outputRows_blind
  cases c with
  | powerOn => exact hpower
  | supplySample mv => exact hsupply mv
  | supplyMonitorReset => exact hmonOn
  | supplyMonitorRelease => exact hmonOff
  | resetPinLow => exact hpinLow
  | resetPinHigh => exact hpinHigh
  | chordReset => exact hchord
  | chordResetRelease => exact hchordOff
  | settleTimer a p => exact hsettle a p
  | dominantRunLeadingEdge => exact hedge
  | roundTimerPa => exact hpa
  | syncMarkRelease => exact hmark
  | noiseRunEnd bits => exact hnoise bits
  | missingRound => exact hmissing
  | silenceEvent => exact hsilence
  | isolationTimerExpiry => exact hisolation
  | roundStart => exact hstart
  | roundEnd w => exact hend w
  | syncRecognised data frame => exact hsync data frame
  | captureRisingEdge ch n =>
    obtain ⟨hrise, -, -⟩ := captureRows_blind ch
    exact hrise n
  | captureFallingEdge ch n =>
    obtain ⟨-, hfall, -⟩ := captureRows_blind ch
    exact hfall n
  | periodAbandoned ch =>
    obtain ⟨-, -, habandoned⟩ := captureRows_blind ch
    exact habandoned
  | keySample x => exact ⟨_, fun _ => rfl, .ite (fun _ _ => rfl) (sampleKeys_blind x) .id⟩
  | keyPress k x =>
    exact ⟨_, fun _ => rfl, .ite
      (fun q s => congrArg (fun r => s.sampling ∧ k ≠ .mode ∧ r = Recognition.press) (recognitionAt_queued q s k x))
      (sampleKeys_blind _) .id⟩
  | keyRelease k x =>
    exact ⟨_, fun _ => rfl, .ite
      (fun q s => congrArg (fun r => s.sampling ∧ r = Recognition.release) (recognitionAt_queued q s k x))
      (sampleKeys_blind x) .id⟩
  | modePressRecognition x => exact ⟨_, fun _ => rfl, .ite (fun _ _ => rfl) (sampleKeys_blind x) .id⟩
  | modeShortPress x => exact ⟨_, fun _ => rfl, .ite (fun _ _ => rfl) (sampleKeys_blind x) .id⟩
  | modeLongPress => exact ⟨_, fun _ => rfl, .ite (fun _ _ => rfl) (fun _ _ => rfl) .id⟩
  | damperPulse => exact hpulse
  | stall => exact hstall
  | pauseEnd => exact hpause
  | retryEnd => exact hretry
  | homingTimeout => exact hhoming
  | pwmPeriodEnd ch => exact hpwm ch
  | hbridgePeriodStart => exact hbridge
  | switchedIntervalEnd l => exact hinterval l
  | blinkClock => exact hblink
  | tripInputSample high => exact htrip high
  | tripFilterChange => exact hfilter
  | secondTick => exact ⟨_, fun _ => rfl, secondTick_blind⟩
  | ringEmptied ch => exact tickRow_blind (fun _ => rfl) fun _ _ => by cases ch <;> rfl
  | coldBlowHoldEnd | coilFrostChange | supplyHotChange | auxHeatOn | normalStop | frostStop | minOffEnd | defrostEntry
  | defrostEnd | dripEnd | tripAgeExpiry => exact tickRow_blind (fun _ => rfl) fun _ _ => rfl
  | setCool | setHeat | setHumid | zoneSet | read | testDamper | testBlower | testSpeed | forceDefrost | corruptCheck
  | muteCount | clearTrip | normal => exact directiveRow_blind fun _ => rfl

/-- Settles O2: each row is a function of the station that commutes with replacing the queue; applied to the station's
own queue, that says that the row leaves it. -/
theorem everyCommandAnswersANextState : Obligations.EveryCommandAnswersANextState := by
  unfold Obligations.EveryCommandAnswersANextState
  intro c q s
  obtain ⟨f, hrow, hblind⟩ := exec_blind c
  have hkept : (f s).pending = s.pending := (congrArg State.pending (hblind s.pending s) :)
  exact ⟨f s, hrow s, hkept, (hrow _).trans (congrArg Host.Outcome.next (hblind q s))⟩

end Sys2Proof.Machine


/-! O3. A command whose event cannot arise takes no branch of its row: each of the conditions denies the row's own test. -/

namespace Sys2Proof.Machine

/-- A row whose test fails answers the state it was given. -/
theorem next_of_not {p : Prop} [Decidable p] {f s : State} (h : ¬ p) :
    (.next (if p then f else s) : Host.Outcome State Fault Refusal) = .next s :=
  congrArg Host.Outcome.next (if_neg h)

/-- A row that excludes its test answers the state it was given. -/
theorem next_of {p : Prop} [Decidable p] {f s : State} (h : p) :
    (.next (if p then s else f) : Host.Outcome State Fault Refusal) = .next s :=
  congrArg Host.Outcome.next (if_pos h)

/-- A flag that is clear does not pass a row's test. -/
theorem not_true_of_false {b : Bool} (h : b = false) : ¬ b = true := by
  rw [h]; exact Bool.false_ne_true

/-! ### Rows that name a second tick -/

/-- A row that names a tick answers the state it was given where the tick does not bring about what the row names. -/
theorem tickRow_idle {c : Instr} {b : Bool} {s : State} (hrow : exec c s = .next (secondTickFor b s))
    (h : Ticking s → ¬ b = true) : exec c s = .next s := by
  refine hrow.trans (next_of_not fun hgo => ?_)
  simp only [Bool.and_eq_true] at hgo
  obtain ⟨⟨hrun, hstarted⟩, hb⟩ := hgo
  exact h ⟨hrun, of_decide_eq_true hstarted⟩ hb

theorem emptiesRing_iff (ch : Channel) (s : State) :
    emptiesRing ch s = true ↔
      (s.meas.channel ch).misses < 3 ∧ ((roleTick (consumed s)).meas.channel ch).misses = 3 := by
  rw [roleTick_meas, emptiesRing, decide_eq_true_iff]

theorem endsHold_iff (s : State) :
    endsHold s = true ↔
      s.role = .handler ∧ s.handler.holdActive = true ∧ (handlerTick (consumed s)).handler.holdActive = false := by
  simp only [endsHold, Bool.and_eq_true, decide_eq_true_iff, Bool.not_eq_true', and_assoc]

theorem bringsAux_iff (s : State) :
    bringsAux s = true ↔
      s.role = .handler ∧ s.handler.auxOn = false ∧ (handlerTick (consumed s)).handler.auxOn = true ∧
        s.health.plant.defrost.value = false := by
  simp only [bringsAux, Bool.and_eq_true, decide_eq_true_iff, Bool.not_eq_true', and_assoc]

theorem bringsFrostStop_iff (s : State) :
    bringsFrostStop s = true ↔
      s.role = .outdoor ∧ s.outdoor.comp.isRunning = true ∧ s.health.plant.coilFrost.value = true ∧
        300 ≤ s.outdoor.frostStop + 1 := by
  simp only [bringsFrostStop, Bool.and_eq_true, decide_eq_true_iff, and_assoc]

theorem bringsNormalStop_iff (s : State) :
    bringsNormalStop s = true ↔
      s.role = .outdoor ∧ s.outdoor.comp.isRunning = true ∧ bringsFrostStop s = false ∧
        (outdoorTick (consumed s)).outdoor.comp = .minOff := by
  simp only [bringsNormalStop, Bool.and_eq_true, decide_eq_true_iff, Bool.not_eq_true', and_assoc]

/-- No trip leaves a history in which none is 3599 s old (R159). -/
theorem ageTrips_length {trips : List Nat} (h : ∀ a ∈ trips, a < 3599) : (ageTrips trips).length = trips.length := by
  have hall : ∀ x ∈ trips.map (· + 1), decide (x < 3600) = true := by
    intro x hx
    obtain ⟨a, ha, rfl⟩ := List.mem_map.mp hx
    have := h a ha
    exact decide_eq_true (by omega)
  rw [ageTrips, List.filter_eq_self.mpr hall, List.length_map]

/-- The defrost machine stays in DEFROST short of a warm coil and of 600 s (R157). -/
theorem defrostAfterTick_of_cold {s : State} (hd : s.outdoor.defrost = .defrost)
    (hcold : atLeast (consumed s).tempB 120 = false) (hphase : s.outdoor.phase < 599) : defrostAfterTick s = .defrost := by
  have hgo : ¬ (atLeast (consumed s).plantIn.coil 120 = true ∨ 600 ≤ s.outdoor.phase + 1) := by
    rintro (h | h)
    · exact not_true_of_false hcold h
    · omega
  unfold defrostAfterTick Outdoor.tickDefrost
  rw [hd]
  dsimp only
  rw [if_neg hgo]

/-- The defrost machine stays in DRIP short of 30 s (R157). -/
theorem defrostAfterTick_of_wet {s : State} (hd : s.outdoor.defrost = .drip) (hphase : s.outdoor.phase < 29) :
    defrostAfterTick s = .drip := by
  unfold defrostAfterTick Outdoor.tickDefrost
  rw [hd]
  dsimp only
  rw [if_neg (by omega)]

/-- The rows of a second tick that a handler's machines bring about. -/
theorem handlerTickRows_idle (s : State) :
    (CannotArise .coldBlowHoldEnd s → exec .coldBlowHoldEnd s = .next s) ∧
      (CannotArise .coilFrostChange s → exec .coilFrostChange s = .next s) ∧
      (CannotArise .supplyHotChange s → exec .supplyHotChange s = .next s) ∧
      (CannotArise .auxHeatOn s → exec .auxHeatOn s = .next s) := by
  have htick : ∀ ht : Ticking s, s.role = .handler → exec .secondTick s = .next (handlerTick (consumed s)) :=
    fun ht hr => roleTick_of_handler hr ▸ exec_secondTick_of_ticking ht
  refine ⟨fun h => tickRow_idle rfl fun ht hb => ?_, fun h => tickRow_idle rfl fun ht hb => ?_,
    fun h => tickRow_idle rfl fun ht hb => ?_, fun h => tickRow_idle rfl fun ht hb => ?_⟩
  · obtain ⟨hr, hwas, hends⟩ := (endsHold_iff s).mp hb
    obtain h | h | h := h
    · exact h ht
    · exact not_true_of_false h hwas
    · exact not_true_of_false hends (h _ (htick ht hr))
  · obtain ⟨hr, hchange⟩ := of_decide_eq_true hb
    obtain h | h := h
    · exact h ht
    · exact hchange (h _ (htick ht hr))
  · obtain ⟨hr, hchange⟩ := of_decide_eq_true hb
    obtain h | h := h
    · exact h ht
    · exact hchange (h _ (htick ht hr))
  · obtain ⟨hr, hwas, hon, hplant⟩ := (bringsAux_iff s).mp hb
    obtain h | h | h | h := h
    · exact h ht
    · exact not_true_of_false hwas h
    · exact not_true_of_false hplant h
    · exact not_true_of_false (h _ (htick ht hr)) hon

/-- The rows of a second tick that an outdoor station's compressor machine and trip history bring about. -/
theorem compressorTickRows_idle (s : State) :
    (CannotArise .normalStop s → exec .normalStop s = .next s) ∧
      (CannotArise .frostStop s → exec .frostStop s = .next s) ∧
      (CannotArise .minOffEnd s → exec .minOffEnd s = .next s) ∧
      (CannotArise .tripAgeExpiry s → exec .tripAgeExpiry s = .next s) := by
  refine ⟨fun h => tickRow_idle rfl fun ht hb => ?_, fun h => tickRow_idle rfl fun ht hb => ?_,
    fun h => tickRow_idle rfl fun ht hb => ?_, fun h => tickRow_idle rfl fun ht hb => ?_⟩
  · obtain ⟨hr, hrun, hfrost, hstops⟩ := (bringsNormalStop_iff s).mp hb
    obtain h | h | ⟨hcoil, hcount⟩ | h := h
    · exact h ht
    · exact not_true_of_false h hrun
    · exact not_true_of_false hfrost ((bringsFrostStop_iff s).mpr ⟨hr, hrun, hcoil, Nat.succ_le_succ hcount⟩)
    · have hgoes := h _ (roleTick_of_outdoor hr ▸ exec_secondTick_of_ticking ht)
      rw [hstops] at hgoes
      exact Bool.false_ne_true hgoes
  · obtain ⟨hr, hrun, hcoil, hcount⟩ := (bringsFrostStop_iff s).mp hb
    obtain h | h | h | h | h := h
    · exact h ht
    · exact h hr
    · exact not_true_of_false h hrun
    · exact not_true_of_false h hcoil
    · omega
  · obtain ⟨hr, hoff, hcount⟩ := of_decide_eq_true hb
    obtain h | h | h | h := h
    · exact h ht
    · exact h hr
    · exact h hoff
    · omega
  · obtain ⟨hr, hshorter⟩ := of_decide_eq_true hb
    obtain h | h | h := h
    · exact h ht
    · exact h hr
    · exact absurd (ageTrips_length h) hshorter.ne

/-- The rows of a second tick that the defrost machine brings about. -/
theorem defrostTickRows_idle (s : State) :
    (CannotArise .defrostEntry s → exec .defrostEntry s = .next s) ∧
      (CannotArise .defrostEnd s → exec .defrostEnd s = .next s) ∧
      (CannotArise .dripEnd s → exec .dripEnd s = .next s) := by
  refine ⟨fun h => tickRow_idle rfl fun ht hb => ?_, fun h => tickRow_idle rfl fun ht hb => ?_,
    fun h => tickRow_idle rfl fun ht hb => ?_⟩
  · obtain ⟨hr, hwas, henters⟩ := of_decide_eq_true hb
    obtain h | h | h | h := h
    · exact h ht
    · exact h hr
    · exact h hwas
    · exact h henters
  · obtain ⟨hr, hwas, hends⟩ := of_decide_eq_true hb
    obtain h | h | h | ⟨hcold, hphase⟩ := h
    · exact h ht
    · exact h hr
    · exact h hwas
    · exact DefrostState.noConfusion ((defrostAfterTick_of_cold hwas hcold hphase).symm.trans hends)
  · obtain ⟨hr, hwas, hends⟩ := of_decide_eq_true hb
    obtain h | h | h | h := h
    · exact h ht
    · exact h hr
    · exact h hwas
    · exact DefrostState.noConfusion ((defrostAfterTick_of_wet hwas h).symm.trans hends)

/-- RING_EMPTIED (R68). -/
theorem ringEmptied_idle {ch : Channel} {s : State} (h : CannotArise (.ringEmptied ch) s) :
    exec (.ringEmptied ch) s = .next s := by
  refine tickRow_idle rfl fun ht hb => ?_
  obtain ⟨hfew, hthird⟩ := (emptiesRing_iff ch s).mp hb
  obtain h | h | h := h
  · exact h ht
  · omega
  · exact h _ (exec_secondTick_of_ticking ht) hthird

/-! ### Directives, reset, line, keys and damper -/

/-- A directive row changes nothing where the station does not hear it (R172, R177). -/
theorem directiveRow_idle {i : Instr} {c : Code} {source dest : Nibble} {arg : Byte} {s : State}
    (hrow : exec i s = .next (runDirective c source dest arg s)) (h : ¬ Heard source dest s) : exec i s = .next s :=
  hrow.trans (next_of_not fun ⟨hlink, hsource, hto⟩ => h ⟨hlink, hsource, of_decide_eq_true hto⟩)

/-- The rows of the reset block that name an event of one of the sources. -/
theorem resetRows_idle (s : State) :
    (CannotArise .supplyMonitorReset s → exec .supplyMonitorReset s = .next s) ∧
      (CannotArise .supplyMonitorRelease s → exec .supplyMonitorRelease s = .next s) ∧
      (CannotArise .resetPinLow s → exec .resetPinLow s = .next s) ∧
      (CannotArise .resetPinHigh s → exec .resetPinHigh s = .next s) ∧
      (CannotArise .chordReset s → exec .chordReset s = .next s) ∧
      (CannotArise .chordResetRelease s → exec .chordResetRelease s = .next s) := by
  refine ⟨fun h => next_of_not fun ⟨hfree, hcount⟩ => ?_, fun h => next_of_not (not_true_of_false h), fun h => next_of h,
    fun h => next_of_not (not_true_of_false h), fun h => next_of_not (not_true_of_false h),
    fun h => next_of_not (not_true_of_false h)⟩
  obtain h | h := h
  · exact not_true_of_false hfree h
  · exact h hcount

/-- A run that has not begun, or that a recognised sync has taken, ends without an effect (R5). -/
theorem noiseRunEnd_idle {bits : Nat} {s : State} (h : CannotArise (.noiseRunEnd bits) s) :
    exec (.noiseRunEnd bits) s = .next s := by
  obtain h | ⟨hlink, hseen⟩ := h
  · exact next_of_not (not_true_of_false h)
  · by_cases hdominant : s.line.dominant = true
    · exact congrArg Host.Outcome.next
        ((if_pos hdominant).trans ((if_pos ((receives_iff s).mpr hlink)).trans (if_pos hseen)))
    · exact next_of_not hdominant

theorem syncRecognised_idle {data : RoundBits} {frame : FrameLevels} {s : State}
    (h : CannotArise (.syncRecognised data frame) s) : exec (.syncRecognised data frame) s = .next s := by
  refine next_of_not fun ⟨hreceives, hdominant, hseen⟩ => ?_
  obtain h | h | h := h
  · exact not_true_of_false h hdominant
  · exact (receives_iff s).mp hreceives h
  · exact hseen h

theorem roundTimerPa_idle {s : State} (h : CannotArise .roundTimerPa s) : exec .roundTimerPa s = .next s := by
  refine next_of_not fun ⟨hdrives, hahead⟩ => ?_
  obtain h | h := h
  · exact not_true_of_false h hdrives
  · exact h hahead

theorem isolationTimerExpiry_idle {s : State} (h : CannotArise .isolationTimerExpiry s) :
    exec .isolationTimerExpiry s = .next s := by
  refine next_of_not fun ⟨hisolated, hrunning, hclash⟩ => ?_
  obtain h | h | h := h
  · exact h hisolated
  · exact not_true_of_false h hrunning
  · exact hclash h

/-- A channel that is STOPPED or waits for an edge has no period to abandon (R60). -/
theorem periodAbandoned_idle {ch : Channel} {s : State} (h : CannotArise (.periodAbandoned ch) s) :
    exec (.periodAbandoned ch) s = .next s := by
  refine next_of_not fun hopen => ?_
  obtain h | h := h
  · rw [h] at hopen; exact Bool.false_ne_true hopen
  · rw [h] at hopen; exact Bool.false_ne_true hopen

theorem keyPress_idle {k : Key} {x : KeySample} {s : State} (h : CannotArise (.keyPress k x) s) :
    exec (.keyPress k x) s = .next s := by
  refine next_of_not fun ⟨hsampling, hkey, hpress⟩ => ?_
  obtain h | h | h := h
  · exact not_true_of_false h hsampling
  · exact hkey h
  · exact h hpress

theorem keyRelease_idle {k : Key} {x : KeySample} {s : State} (h : CannotArise (.keyRelease k x) s) :
    exec (.keyRelease k x) s = .next s := by
  refine next_of_not fun ⟨hsampling, hrelease⟩ => ?_
  obtain h | h := h
  · exact not_true_of_false h hsampling
  · exact h hrelease

theorem modePressRecognition_idle {x : KeySample} {s : State} (h : CannotArise (.modePressRecognition x) s) :
    exec (.modePressRecognition x) s = .next s := by
  refine next_of_not fun ⟨hsampling, hpress⟩ => ?_
  obtain h | h := h
  · exact not_true_of_false h hsampling
  · exact h hpress

/-- A release of Mode is a short press only with the hold timer running and up to 3.0 s (R80). -/
theorem modeShortPress_idle {x : KeySample} {s : State} (h : CannotArise (.modeShortPress x) s) :
    exec (.modeShortPress x) s = .next s := by
  refine next_of_not fun ⟨hsampling, hshort⟩ => ?_
  obtain ⟨hrelease, hrunning, hlong⟩ := isShortPress_iff.mp hshort
  obtain h | h | h | h := h
  · exact not_true_of_false h hsampling
  · exact h hrelease
  · exact not_true_of_false h ((elapseTo_modeHold_running ..).symm.trans hrunning)
  · exact hlong ⟨hrunning, h⟩

/-- A pulse outside a ZONE station, or before the first homing, is not counted (R120). -/
theorem damperPulse_idle {s : State} (h : CannotArise .damperPulse s) : exec .damperPulse s = .next s := by
  by_cases hrole : s.role = .zone
  · have hparked : s.damper.machine = .parked := h.resolve_left fun hne => hne hrole
    have hpulse : s.motor.pulse = s.motor := if_pos hparked
    exact congrArg Host.Outcome.next ((if_pos hrole).trans (congrArg s.withMotor hpulse))
  · exact next_of_not hrole

theorem tripFilterChange_idle {s : State} (h : CannotArise .tripFilterChange s) :
    exec .tripFilterChange s = .next s := by
  refine next_of_not fun ⟨hrunning, hrun⟩ => ?_
  obtain h | h := h
  · exact not_true_of_false h hrunning
  · exact h hrun

/-- A second tick without its clock (R62). -/
theorem secondTick_idle {s : State} (h : CannotArise .secondTick s) : exec .secondTick s = .next s :=
  next_of_not (not_true_of_false h)

/-! ### O3 -/

/-- Settles O3, row by row: the condition of the row denies its test. -/
theorem eventsThatCannotAriseChangeNothing : Obligations.EventsThatCannotAriseChangeNothing := by
  intro c s h
  obtain ⟨hmonOn, hmonOff, hpinLow, hpinHigh, hchord, hchordOff⟩ := resetRows_idle s
  obtain ⟨hhold, hfrost, hhot, haux⟩ := handlerTickRows_idle s
  obtain ⟨hnormal, hfrostStop, hminOff, htrips⟩ := compressorTickRows_idle s
  obtain ⟨henters, hends, hdrains⟩ := defrostTickRows_idle s
  cases c with
  | powerOn | switchedIntervalEnd | supplySample => exact False.elim h
  | supplyMonitorReset => exact hmonOn h
  | supplyMonitorRelease => exact hmonOff h
  | resetPinLow => exact hpinLow h
  | resetPinHigh => exact hpinHigh h
  | chordReset => exact hchord h
  | chordResetRelease => exact hchordOff h
  | noiseRunEnd => exact noiseRunEnd_idle h
  | syncRecognised => exact syncRecognised_idle h
  | roundTimerPa => exact roundTimerPa_idle h
  | isolationTimerExpiry => exact isolationTimerExpiry_idle h
  | settleTimer | roundStart | silenceEvent | pauseEnd | retryEnd => exact next_of_not h
  | syncMarkRelease | roundEnd | missingRound | modeLongPress | stall | homingTimeout | pwmPeriodEnd
  | hbridgePeriodStart | blinkClock | tripInputSample | keySample => exact next_of_not (not_true_of_false h)
  | dominantRunLeadingEdge | captureRisingEdge | captureFallingEdge => exact next_of h
  | periodAbandoned => exact periodAbandoned_idle h
  | keyPress => exact keyPress_idle h
  | keyRelease => exact keyRelease_idle h
  | modePressRecognition => exact modePressRecognition_idle h
  | modeShortPress => exact modeShortPress_idle h
  | damperPulse => exact damperPulse_idle h
  | tripFilterChange => exact tripFilterChange_idle h
  | secondTick => exact secondTick_idle h
  | ringEmptied => exact ringEmptied_idle h
  | coldBlowHoldEnd => exact hhold h
  | coilFrostChange => exact hfrost h
  | supplyHotChange => exact hhot h
  | auxHeatOn => exact haux h
  | normalStop => exact hnormal h
  | frostStop => exact hfrostStop h
  | minOffEnd => exact hminOff h
  | tripAgeExpiry => exact htrips h
  | defrostEntry => exact henters h
  | defrostEnd => exact hends h
  | dripEnd => exact hdrains h
  | setCool | setHeat | setHumid | zoneSet | read | testDamper | testBlower | testSpeed | forceDefrost | corruptCheck
  | muteCount | clearTrip | normal => exact directiveRow_idle rfl h

end Sys2Proof.Machine
